-- ==== Sys2Proof/Word.lean ====
section
/-! DEFINITION. The word types of the machine (spec/00_scope.md R4, R5): bytes, 16-bit addresses and the unsigned
32-bit cycle count. `+8`, `-8` and `+16` of R5 are the wrapping `+` and `-` of `BitVec`. -/

namespace Sys2Proof

/-- The `u8` of R5: register contents, memory cells, operand bytes. -/
abbrev Byte := BitVec 8

/-- The `u16` of R5: the program counter and every bus address. -/
abbrev Addr := BitVec 16

/-- The `u32` of R4: the cycle count a successful step returns. -/
abbrev CycleCount := BitVec 32

end Sys2Proof
end

