-- ==== Sys2Proof/Config.lean ====
section
/-! DEFINITION. The parameters of the machine (spec/00_scope.md R4): a configuration, for which the spec gives defaults
(spec/92_eei_decisions.md D6, D7, D20) and asks for fields instead of literals (R25), and the bus (spec/20_memory.md R30),
which has none. -/

namespace Sys2Proof

/-- The named parameters of R4 that have a default. -/
structure Config where
  /-- `RESET_A`. -/
  resetA : Byte
  /-- `RESET_X`. -/
  resetX : Byte
  /-- `RESET_Y`. -/
  resetY : Byte
  /-- `RESET_S`. -/
  resetS : Byte
  /-- `RESET_P`, the packed status after reset; R4 requires its bit 5 to be 1. -/
  resetP : Byte
  /-- `RESET_VECTOR`, the address of the low byte of the reset vector. -/
  resetVector : Addr
  /-- `BRK_VECTOR`, the address of the low byte of the vector BRK loads. -/
  brkVector : Addr
  /-- `STREAM_BASE`, where the raw-bytes entry point places its stream. -/
  streamBase : Addr
  deriving DecidableEq, Repr

/-- All parameters of R4: a configuration and "the memory-bus instance: a state and two total functions read and write". `β`
is the rule's `BusState`; a read gives a new bus state too, since it may have a side effect there (R30). Both functions are
total, so no access faults (R31). -/
structure Platform (β : Type) where
  /-- The parameters with a default. -/
  config : Config
  /-- `read : BusState -> u16 -> u8 x BusState` (R30). -/
  read : β → Addr → Byte × β
  /-- `write : BusState -> u16 -> u8 -> BusState` (R30). -/
  write : β → Addr → Byte → β

/-- The machine's configuration: the defaults of R4. DESIGN CHOICE for `RESET_A`, `RESET_X`, `RESET_Y` and
`STREAM_BASE` (logs 4 and 14), PRESUMED (the 6502's) for `RESET_S`, `RESET_P` and the vectors (logs 4 and 5). -/
def Config.machine : Config where
  resetA := 0x00
  resetX := 0x00
  resetY := 0x00
  resetS := 0xFD
  resetP := 0x24
  resetVector := 0xFFFC
  brkVector := 0xFFFE
  streamBase := 0x8000

end Sys2Proof
end

