-- ==== Sys2Proof/Syntax.lean ====
section
/-! DEFINITION. The instruction set as syntax (spec/30_encoding.md R50 to R53, R69, R70): the 13 addressing modes, the
operand forms, the descriptor record of the instruction table, the 76 mnemonics, and `Instr` with one constructor for
each row of spec/opcode_table.json. A constructor is named after its mnemonic and mode; where several rows agree in both,
the opcode byte follows (`jam02`, `ancImm2B`), but not in `sbcImm` (0xE9) and `nop` (0xEA), the official rows. -/

namespace Sys2Proof

/-- The "closed enumeration of 13 variants" of R53. -/
inductive Mode where
  | implied | accumulator | immediate | zeroPage | zeroPageX | zeroPageY | relative
  | indirectX | indirectY | absolute | absoluteX | absoluteY | indirect
  deriving DecidableEq, Repr

/-- An operand as it stands in the instruction bytes: the mode of R53 with `b1`, or with the word `{b2, b1}` of the
three-byte format of R51. -/
inductive Operand where
  | implied
  | accumulator
  | immediate (b : Byte)
  | zeroPage (b : Byte)
  | zeroPageX (b : Byte)
  | zeroPageY (b : Byte)
  | relative (d : Byte)
  | indirectX (b : Byte)
  | indirectY (b : Byte)
  | absolute (w : Addr)
  | absoluteX (w : Addr)
  | absoluteY (w : Addr)
  | indirect (w : Addr)
  deriving DecidableEq, Repr

/-- The four classes of R70. -/
inductive OpClass where
  | official | unofficial | jam | unimplemented
  deriving DecidableEq, Repr

/-- The mnemonics of spec/opcode_table.json, spelled as there (R73). -/
inductive Mnemonic where
  | BRK | ORA | JAM | SLO | NOP | ASL | PHP | ANC | BPL | CLC | JSR | AND | RLA | BIT | ROL | PLP | BMI | SEC
  | RTI | EOR | SRE | LSR | PHA | ALR | JMP | BVC | CLI | RTS | ADC | RRA | ROR | PLA | ARR | BVS | SEI | STA
  | SAX | STY | STX | DEY | TXA | ANE | BCC | SHA | TYA | TXS | TAS | SHY | SHX | LDY | LDA | LDX | LAX | TAY
  | TAX | LXA | BCS | CLV | TSX | LAS | CPY | CMP | DCP | DEC | INY | DEX | SBX | BNE | CLD | CPX | SBC | ISC
  | INC | INX | BEQ | SED
  deriving DecidableEq, Repr

/-- A row of the instruction table (R52): band0's record {opcode byte, length, base cycle cost, mode} and halt flag, the
class of R70 and the page-penalty flag `+p` of R68. The mnemonic names the row's rule. -/
structure Descriptor where
  opcode : Byte
  mnemonic : Mnemonic
  mode : Mode
  length : Nat
  baseCycles : Nat
  pagePenalty : Bool
  cls : OpClass
  halt : Bool
  deriving DecidableEq, Repr

/-- Why a byte list holds no whole instruction. Every opcode byte has a row (R69), so only a list that ends too early
is rejected. -/
inductive DecodeError where
  /-- There is no opcode byte. -/
  | noBytes
  /-- The row of `opcode` asks for `missing` more operand bytes than there are. -/
  | truncated (opcode : Byte) (missing : Nat)
  deriving DecidableEq, Repr

/-- The rows of the opcode map of R69, one constructor for each. A field `b` is the operand byte `b1`, `d` the signed
displacement of a branch, `w` the word `{b2, b1}` of a three-byte instruction. The rows with an operand stand first, in the
table's order, then those without one: Lean's compiler admits at most 244 constructors that hold fields. -/
inductive Instr where
  /-- 0x01 ORA, IndirectX (R113). -/
  | oraIzx (b : Byte)
  /-- 0x03 SLO, IndirectX (R188). -/
  | sloIzx (b : Byte)
  /-- 0x04 NOP, ZeroPage (R182). -/
  | nopZp04 (b : Byte)
  /-- 0x05 ORA, ZeroPage (R113). -/
  | oraZp (b : Byte)
  /-- 0x06 ASL, ZeroPage (R135). -/
  | aslZp (b : Byte)
  /-- 0x07 SLO, ZeroPage (R188). -/
  | sloZp (b : Byte)
  /-- 0x09 ORA, Immediate (R113). -/
  | oraImm (b : Byte)
  /-- 0x0B ANC, Immediate (R192). -/
  | ancImm0B (b : Byte)
  /-- 0x0C NOP, Absolute (R182). -/
  | nopAbs (w : Addr)
  /-- 0x0D ORA, Absolute (R113). -/
  | oraAbs (w : Addr)
  /-- 0x0E ASL, Absolute (R135). -/
  | aslAbs (w : Addr)
  /-- 0x0F SLO, Absolute (R188). -/
  | sloAbs (w : Addr)
  /-- 0x10 BPL, Relative (R154). -/
  | bpl (d : Byte)
  /-- 0x11 ORA, IndirectY (R113). -/
  | oraIzy (b : Byte)
  /-- 0x13 SLO, IndirectY (R188). -/
  | sloIzy (b : Byte)
  /-- 0x14 NOP, ZeroPageX (R182). -/
  | nopZpx14 (b : Byte)
  /-- 0x15 ORA, ZeroPageX (R113). -/
  | oraZpx (b : Byte)
  /-- 0x16 ASL, ZeroPageX (R135). -/
  | aslZpx (b : Byte)
  /-- 0x17 SLO, ZeroPageX (R188). -/
  | sloZpx (b : Byte)
  /-- 0x19 ORA, AbsoluteY (R113). -/
  | oraAby (w : Addr)
  /-- 0x1B SLO, AbsoluteY (R188). -/
  | sloAby (w : Addr)
  /-- 0x1C NOP, AbsoluteX (R182). -/
  | nopAbx1C (w : Addr)
  /-- 0x1D ORA, AbsoluteX (R113). -/
  | oraAbx (w : Addr)
  /-- 0x1E ASL, AbsoluteX (R135). -/
  | aslAbx (w : Addr)
  /-- 0x1F SLO, AbsoluteX (R188). -/
  | sloAbx (w : Addr)
  /-- 0x20 JSR, Absolute (R146). -/
  | jsr (w : Addr)
  /-- 0x21 AND, IndirectX (R112). -/
  | andIzx (b : Byte)
  /-- 0x23 RLA, IndirectX (R189). -/
  | rlaIzx (b : Byte)
  /-- 0x24 BIT, ZeroPage (R118). -/
  | bitZp (b : Byte)
  /-- 0x25 AND, ZeroPage (R112). -/
  | andZp (b : Byte)
  /-- 0x26 ROL, ZeroPage (R137). -/
  | rolZp (b : Byte)
  /-- 0x27 RLA, ZeroPage (R189). -/
  | rlaZp (b : Byte)
  /-- 0x29 AND, Immediate (R112). -/
  | andImm (b : Byte)
  /-- 0x2B ANC, Immediate (R192). -/
  | ancImm2B (b : Byte)
  /-- 0x2C BIT, Absolute (R118). -/
  | bitAbs (w : Addr)
  /-- 0x2D AND, Absolute (R112). -/
  | andAbs (w : Addr)
  /-- 0x2E ROL, Absolute (R137). -/
  | rolAbs (w : Addr)
  /-- 0x2F RLA, Absolute (R189). -/
  | rlaAbs (w : Addr)
  /-- 0x30 BMI, Relative (R153). -/
  | bmi (d : Byte)
  /-- 0x31 AND, IndirectY (R112). -/
  | andIzy (b : Byte)
  /-- 0x33 RLA, IndirectY (R189). -/
  | rlaIzy (b : Byte)
  /-- 0x34 NOP, ZeroPageX (R182). -/
  | nopZpx34 (b : Byte)
  /-- 0x35 AND, ZeroPageX (R112). -/
  | andZpx (b : Byte)
  /-- 0x36 ROL, ZeroPageX (R137). -/
  | rolZpx (b : Byte)
  /-- 0x37 RLA, ZeroPageX (R189). -/
  | rlaZpx (b : Byte)
  /-- 0x39 AND, AbsoluteY (R112). -/
  | andAby (w : Addr)
  /-- 0x3B RLA, AbsoluteY (R189). -/
  | rlaAby (w : Addr)
  /-- 0x3C NOP, AbsoluteX (R182). -/
  | nopAbx3C (w : Addr)
  /-- 0x3D AND, AbsoluteX (R112). -/
  | andAbx (w : Addr)
  /-- 0x3E ROL, AbsoluteX (R137). -/
  | rolAbx (w : Addr)
  /-- 0x3F RLA, AbsoluteX (R189). -/
  | rlaAbx (w : Addr)
  /-- 0x41 EOR, IndirectX (R114). -/
  | eorIzx (b : Byte)
  /-- 0x43 SRE, IndirectX (R190). -/
  | sreIzx (b : Byte)
  /-- 0x44 NOP, ZeroPage (R182). -/
  | nopZp44 (b : Byte)
  /-- 0x45 EOR, ZeroPage (R114). -/
  | eorZp (b : Byte)
  /-- 0x46 LSR, ZeroPage (R136). -/
  | lsrZp (b : Byte)
  /-- 0x47 SRE, ZeroPage (R190). -/
  | sreZp (b : Byte)
  /-- 0x49 EOR, Immediate (R114). -/
  | eorImm (b : Byte)
  /-- 0x4B ALR, Immediate (R193). -/
  | alrImm (b : Byte)
  /-- 0x4C JMP, Absolute (R145). -/
  | jmpAbs (w : Addr)
  /-- 0x4D EOR, Absolute (R114). -/
  | eorAbs (w : Addr)
  /-- 0x4E LSR, Absolute (R136). -/
  | lsrAbs (w : Addr)
  /-- 0x4F SRE, Absolute (R190). -/
  | sreAbs (w : Addr)
  /-- 0x50 BVC, Relative (R155). -/
  | bvc (d : Byte)
  /-- 0x51 EOR, IndirectY (R114). -/
  | eorIzy (b : Byte)
  /-- 0x53 SRE, IndirectY (R190). -/
  | sreIzy (b : Byte)
  /-- 0x54 NOP, ZeroPageX (R182). -/
  | nopZpx54 (b : Byte)
  /-- 0x55 EOR, ZeroPageX (R114). -/
  | eorZpx (b : Byte)
  /-- 0x56 LSR, ZeroPageX (R136). -/
  | lsrZpx (b : Byte)
  /-- 0x57 SRE, ZeroPageX (R190). -/
  | sreZpx (b : Byte)
  /-- 0x59 EOR, AbsoluteY (R114). -/
  | eorAby (w : Addr)
  /-- 0x5B SRE, AbsoluteY (R190). -/
  | sreAby (w : Addr)
  /-- 0x5C NOP, AbsoluteX (R182). -/
  | nopAbx5C (w : Addr)
  /-- 0x5D EOR, AbsoluteX (R114). -/
  | eorAbx (w : Addr)
  /-- 0x5E LSR, AbsoluteX (R136). -/
  | lsrAbx (w : Addr)
  /-- 0x5F SRE, AbsoluteX (R190). -/
  | sreAbx (w : Addr)
  /-- 0x61 ADC, IndirectX (R110). -/
  | adcIzx (b : Byte)
  /-- 0x63 RRA, IndirectX (R191). -/
  | rraIzx (b : Byte)
  /-- 0x64 NOP, ZeroPage (R182). -/
  | nopZp64 (b : Byte)
  /-- 0x65 ADC, ZeroPage (R110). -/
  | adcZp (b : Byte)
  /-- 0x66 ROR, ZeroPage (R138). -/
  | rorZp (b : Byte)
  /-- 0x67 RRA, ZeroPage (R191). -/
  | rraZp (b : Byte)
  /-- 0x69 ADC, Immediate (R110). -/
  | adcImm (b : Byte)
  /-- 0x6B ARR, Immediate (R194). -/
  | arrImm (b : Byte)
  /-- 0x6C JMP, Indirect (R145). -/
  | jmpInd (w : Addr)
  /-- 0x6D ADC, Absolute (R110). -/
  | adcAbs (w : Addr)
  /-- 0x6E ROR, Absolute (R138). -/
  | rorAbs (w : Addr)
  /-- 0x6F RRA, Absolute (R191). -/
  | rraAbs (w : Addr)
  /-- 0x70 BVS, Relative (R156). -/
  | bvs (d : Byte)
  /-- 0x71 ADC, IndirectY (R110). -/
  | adcIzy (b : Byte)
  /-- 0x73 RRA, IndirectY (R191). -/
  | rraIzy (b : Byte)
  /-- 0x74 NOP, ZeroPageX (R182). -/
  | nopZpx74 (b : Byte)
  /-- 0x75 ADC, ZeroPageX (R110). -/
  | adcZpx (b : Byte)
  /-- 0x76 ROR, ZeroPageX (R138). -/
  | rorZpx (b : Byte)
  /-- 0x77 RRA, ZeroPageX (R191). -/
  | rraZpx (b : Byte)
  /-- 0x79 ADC, AbsoluteY (R110). -/
  | adcAby (w : Addr)
  /-- 0x7B RRA, AbsoluteY (R191). -/
  | rraAby (w : Addr)
  /-- 0x7C NOP, AbsoluteX (R182). -/
  | nopAbx7C (w : Addr)
  /-- 0x7D ADC, AbsoluteX (R110). -/
  | adcAbx (w : Addr)
  /-- 0x7E ROR, AbsoluteX (R138). -/
  | rorAbx (w : Addr)
  /-- 0x7F RRA, AbsoluteX (R191). -/
  | rraAbx (w : Addr)
  /-- 0x80 NOP, Immediate (R182). -/
  | nopImm80 (b : Byte)
  /-- 0x81 STA, IndirectX (R83). -/
  | staIzx (b : Byte)
  /-- 0x82 NOP, Immediate (R182). -/
  | nopImm82 (b : Byte)
  /-- 0x83 SAX, IndirectX (R184). -/
  | saxIzx (b : Byte)
  /-- 0x84 STY, ZeroPage (R85). -/
  | styZp (b : Byte)
  /-- 0x85 STA, ZeroPage (R83). -/
  | staZp (b : Byte)
  /-- 0x86 STX, ZeroPage (R84). -/
  | stxZp (b : Byte)
  /-- 0x87 SAX, ZeroPage (R184). -/
  | saxZp (b : Byte)
  /-- 0x89 NOP, Immediate (R182). -/
  | nopImm89 (b : Byte)
  /-- 0x8B ANE, Immediate (R198). -/
  | aneImm (b : Byte)
  /-- 0x8C STY, Absolute (R85). -/
  | styAbs (w : Addr)
  /-- 0x8D STA, Absolute (R83). -/
  | staAbs (w : Addr)
  /-- 0x8E STX, Absolute (R84). -/
  | stxAbs (w : Addr)
  /-- 0x8F SAX, Absolute (R184). -/
  | saxAbs (w : Addr)
  /-- 0x90 BCC, Relative (R149). -/
  | bcc (d : Byte)
  /-- 0x91 STA, IndirectY (R83). -/
  | staIzy (b : Byte)
  /-- 0x93 SHA, IndirectY (R200). -/
  | shaIzy (b : Byte)
  /-- 0x94 STY, ZeroPageX (R85). -/
  | styZpx (b : Byte)
  /-- 0x95 STA, ZeroPageX (R83). -/
  | staZpx (b : Byte)
  /-- 0x96 STX, ZeroPageY (R84). -/
  | stxZpy (b : Byte)
  /-- 0x97 SAX, ZeroPageY (R184). -/
  | saxZpy (b : Byte)
  /-- 0x99 STA, AbsoluteY (R83). -/
  | staAby (w : Addr)
  /-- 0x9B TAS, AbsoluteY (R203). -/
  | tasAby (w : Addr)
  /-- 0x9C SHY, AbsoluteX (R202). -/
  | shyAbx (w : Addr)
  /-- 0x9D STA, AbsoluteX (R83). -/
  | staAbx (w : Addr)
  /-- 0x9E SHX, AbsoluteY (R201). -/
  | shxAby (w : Addr)
  /-- 0x9F SHA, AbsoluteY (R200). -/
  | shaAby (w : Addr)
  /-- 0xA0 LDY, Immediate (R82). -/
  | ldyImm (b : Byte)
  /-- 0xA1 LDA, IndirectX (R80). -/
  | ldaIzx (b : Byte)
  /-- 0xA2 LDX, Immediate (R81). -/
  | ldxImm (b : Byte)
  /-- 0xA3 LAX, IndirectX (R183). -/
  | laxIzx (b : Byte)
  /-- 0xA4 LDY, ZeroPage (R82). -/
  | ldyZp (b : Byte)
  /-- 0xA5 LDA, ZeroPage (R80). -/
  | ldaZp (b : Byte)
  /-- 0xA6 LDX, ZeroPage (R81). -/
  | ldxZp (b : Byte)
  /-- 0xA7 LAX, ZeroPage (R183). -/
  | laxZp (b : Byte)
  /-- 0xA9 LDA, Immediate (R80). -/
  | ldaImm (b : Byte)
  /-- 0xAB LXA, Immediate (R199). -/
  | lxaImm (b : Byte)
  /-- 0xAC LDY, Absolute (R82). -/
  | ldyAbs (w : Addr)
  /-- 0xAD LDA, Absolute (R80). -/
  | ldaAbs (w : Addr)
  /-- 0xAE LDX, Absolute (R81). -/
  | ldxAbs (w : Addr)
  /-- 0xAF LAX, Absolute (R183). -/
  | laxAbs (w : Addr)
  /-- 0xB0 BCS, Relative (R150). -/
  | bcs (d : Byte)
  /-- 0xB1 LDA, IndirectY (R80). -/
  | ldaIzy (b : Byte)
  /-- 0xB3 LAX, IndirectY (R183). -/
  | laxIzy (b : Byte)
  /-- 0xB4 LDY, ZeroPageX (R82). -/
  | ldyZpx (b : Byte)
  /-- 0xB5 LDA, ZeroPageX (R80). -/
  | ldaZpx (b : Byte)
  /-- 0xB6 LDX, ZeroPageY (R81). -/
  | ldxZpy (b : Byte)
  /-- 0xB7 LAX, ZeroPageY (R183). -/
  | laxZpy (b : Byte)
  /-- 0xB9 LDA, AbsoluteY (R80). -/
  | ldaAby (w : Addr)
  /-- 0xBB LAS, AbsoluteY (R196). -/
  | lasAby (w : Addr)
  /-- 0xBC LDY, AbsoluteX (R82). -/
  | ldyAbx (w : Addr)
  /-- 0xBD LDA, AbsoluteX (R80). -/
  | ldaAbx (w : Addr)
  /-- 0xBE LDX, AbsoluteY (R81). -/
  | ldxAby (w : Addr)
  /-- 0xBF LAX, AbsoluteY (R183). -/
  | laxAby (w : Addr)
  /-- 0xC0 CPY, Immediate (R117). -/
  | cpyImm (b : Byte)
  /-- 0xC1 CMP, IndirectX (R115). -/
  | cmpIzx (b : Byte)
  /-- 0xC2 NOP, Immediate (R182). -/
  | nopImmC2 (b : Byte)
  /-- 0xC3 DCP, IndirectX (R186). -/
  | dcpIzx (b : Byte)
  /-- 0xC4 CPY, ZeroPage (R117). -/
  | cpyZp (b : Byte)
  /-- 0xC5 CMP, ZeroPage (R115). -/
  | cmpZp (b : Byte)
  /-- 0xC6 DEC, ZeroPage (R120). -/
  | decZp (b : Byte)
  /-- 0xC7 DCP, ZeroPage (R186). -/
  | dcpZp (b : Byte)
  /-- 0xC9 CMP, Immediate (R115). -/
  | cmpImm (b : Byte)
  /-- 0xCB SBX, Immediate (R195). -/
  | sbxImm (b : Byte)
  /-- 0xCC CPY, Absolute (R117). -/
  | cpyAbs (w : Addr)
  /-- 0xCD CMP, Absolute (R115). -/
  | cmpAbs (w : Addr)
  /-- 0xCE DEC, Absolute (R120). -/
  | decAbs (w : Addr)
  /-- 0xCF DCP, Absolute (R186). -/
  | dcpAbs (w : Addr)
  /-- 0xD0 BNE, Relative (R152). -/
  | bne (d : Byte)
  /-- 0xD1 CMP, IndirectY (R115). -/
  | cmpIzy (b : Byte)
  /-- 0xD3 DCP, IndirectY (R186). -/
  | dcpIzy (b : Byte)
  /-- 0xD4 NOP, ZeroPageX (R182). -/
  | nopZpxD4 (b : Byte)
  /-- 0xD5 CMP, ZeroPageX (R115). -/
  | cmpZpx (b : Byte)
  /-- 0xD6 DEC, ZeroPageX (R120). -/
  | decZpx (b : Byte)
  /-- 0xD7 DCP, ZeroPageX (R186). -/
  | dcpZpx (b : Byte)
  /-- 0xD9 CMP, AbsoluteY (R115). -/
  | cmpAby (w : Addr)
  /-- 0xDB DCP, AbsoluteY (R186). -/
  | dcpAby (w : Addr)
  /-- 0xDC NOP, AbsoluteX (R182). -/
  | nopAbxDC (w : Addr)
  /-- 0xDD CMP, AbsoluteX (R115). -/
  | cmpAbx (w : Addr)
  /-- 0xDE DEC, AbsoluteX (R120). -/
  | decAbx (w : Addr)
  /-- 0xDF DCP, AbsoluteX (R186). -/
  | dcpAbx (w : Addr)
  /-- 0xE0 CPX, Immediate (R116). -/
  | cpxImm (b : Byte)
  /-- 0xE1 SBC, IndirectX (R111). -/
  | sbcIzx (b : Byte)
  /-- 0xE2 NOP, Immediate (R182). -/
  | nopImmE2 (b : Byte)
  /-- 0xE3 ISC, IndirectX (R187). -/
  | iscIzx (b : Byte)
  /-- 0xE4 CPX, ZeroPage (R116). -/
  | cpxZp (b : Byte)
  /-- 0xE5 SBC, ZeroPage (R111). -/
  | sbcZp (b : Byte)
  /-- 0xE6 INC, ZeroPage (R119). -/
  | incZp (b : Byte)
  /-- 0xE7 ISC, ZeroPage (R187). -/
  | iscZp (b : Byte)
  /-- 0xE9 SBC, Immediate (R111). -/
  | sbcImm (b : Byte)
  /-- 0xEB SBC, Immediate (R185). -/
  | sbcImmEB (b : Byte)
  /-- 0xEC CPX, Absolute (R116). -/
  | cpxAbs (w : Addr)
  /-- 0xED SBC, Absolute (R111). -/
  | sbcAbs (w : Addr)
  /-- 0xEE INC, Absolute (R119). -/
  | incAbs (w : Addr)
  /-- 0xEF ISC, Absolute (R187). -/
  | iscAbs (w : Addr)
  /-- 0xF0 BEQ, Relative (R151). -/
  | beq (d : Byte)
  /-- 0xF1 SBC, IndirectY (R111). -/
  | sbcIzy (b : Byte)
  /-- 0xF3 ISC, IndirectY (R187). -/
  | iscIzy (b : Byte)
  /-- 0xF4 NOP, ZeroPageX (R182). -/
  | nopZpxF4 (b : Byte)
  /-- 0xF5 SBC, ZeroPageX (R111). -/
  | sbcZpx (b : Byte)
  /-- 0xF6 INC, ZeroPageX (R119). -/
  | incZpx (b : Byte)
  /-- 0xF7 ISC, ZeroPageX (R187). -/
  | iscZpx (b : Byte)
  /-- 0xF9 SBC, AbsoluteY (R111). -/
  | sbcAby (w : Addr)
  /-- 0xFB ISC, AbsoluteY (R187). -/
  | iscAby (w : Addr)
  /-- 0xFC NOP, AbsoluteX (R182). -/
  | nopAbxFC (w : Addr)
  /-- 0xFD SBC, AbsoluteX (R111). -/
  | sbcAbx (w : Addr)
  /-- 0xFE INC, AbsoluteX (R119). -/
  | incAbx (w : Addr)
  /-- 0xFF ISC, AbsoluteX (R187). -/
  | iscAbx (w : Addr)
  /-- 0x00 BRK, Implied (R157). -/
  | brk
  /-- 0x02 JAM, Implied (R197). -/
  | jam02
  /-- 0x08 PHP, Implied (R101). -/
  | php
  /-- 0x0A ASL, Accumulator (R135). -/
  | aslAcc
  /-- 0x12 JAM, Implied (R197). -/
  | jam12
  /-- 0x18 CLC, Implied (R170). -/
  | clc
  /-- 0x1A NOP, Implied (R181). -/
  | nop1A
  /-- 0x22 JAM, Implied (R197). -/
  | jam22
  /-- 0x28 PLP, Implied (R103). -/
  | plp
  /-- 0x2A ROL, Accumulator (R137). -/
  | rolAcc
  /-- 0x32 JAM, Implied (R197). -/
  | jam32
  /-- 0x38 SEC, Implied (R171). -/
  | sec
  /-- 0x3A NOP, Implied (R181). -/
  | nop3A
  /-- 0x40 RTI, Implied (R158). -/
  | rti
  /-- 0x42 JAM, Implied (R197). -/
  | jam42
  /-- 0x48 PHA, Implied (R100). -/
  | pha
  /-- 0x4A LSR, Accumulator (R136). -/
  | lsrAcc
  /-- 0x52 JAM, Implied (R197). -/
  | jam52
  /-- 0x58 CLI, Implied (R172). -/
  | cli
  /-- 0x5A NOP, Implied (R181). -/
  | nop5A
  /-- 0x60 RTS, Implied (R147). -/
  | rts
  /-- 0x62 JAM, Implied (R197). -/
  | jam62
  /-- 0x68 PLA, Implied (R102). -/
  | pla
  /-- 0x6A ROR, Accumulator (R138). -/
  | rorAcc
  /-- 0x72 JAM, Implied (R197). -/
  | jam72
  /-- 0x78 SEI, Implied (R173). -/
  | sei
  /-- 0x7A NOP, Implied (R181). -/
  | nop7A
  /-- 0x88 DEY, Implied (R124). -/
  | dey
  /-- 0x8A TXA, Implied (R88). -/
  | txa
  /-- 0x92 JAM, Implied (R197). -/
  | jam92
  /-- 0x98 TYA, Implied (R89). -/
  | tya
  /-- 0x9A TXS, Implied (R91). -/
  | txs
  /-- 0xA8 TAY, Implied (R87). -/
  | tay
  /-- 0xAA TAX, Implied (R86). -/
  | tax
  /-- 0xB2 JAM, Implied (R197). -/
  | jamB2
  /-- 0xB8 CLV, Implied (R176). -/
  | clv
  /-- 0xBA TSX, Implied (R90). -/
  | tsx
  /-- 0xC8 INY, Implied (R122). -/
  | iny
  /-- 0xCA DEX, Implied (R123). -/
  | dex
  /-- 0xD2 JAM, Implied (R197). -/
  | jamD2
  /-- 0xD8 CLD, Implied (R174). -/
  | cld
  /-- 0xDA NOP, Implied (R181). -/
  | nopDA
  /-- 0xE8 INX, Implied (R121). -/
  | inx
  /-- 0xEA NOP, Implied (R177). -/
  | nop
  /-- 0xF2 JAM, Implied (R197). -/
  | jamF2
  /-- 0xF8 SED, Implied (R175). -/
  | sed
  /-- 0xFA NOP, Implied (R181). -/
  | nopFA
  deriving DecidableEq, Repr

end Sys2Proof
end

