-- ==== Sys2Proof/WellFormed.lean ====
section
/-! DEFINITION. Well-formedness of a row of the instruction table (spec/30_encoding.md R52, R53, R62, R65, R66, R68, R70), and of a
configuration (spec/00_scope.md R4).

An instruction needs no check of its own: "Operand bytes have no reserved values: every `b1` and `b2` is legal in every
mode" (R71), and each constructor of `Instr` is one row with an operand of its row's width, so an ill-formed instruction
cannot be written down. What can be ill-formed is a descriptor or a configuration, and each check below has a term in Tests/Slice0.lean that
it refuses. -/

namespace Sys2Proof

/-- R53: "The length of an instruction is a function of its mode alone". -/
def Descriptor.lengthOk (d : Descriptor) : Bool :=
  match d.mode with
  | .implied | .accumulator => d.length == 1
  | .immediate | .zeroPage | .zeroPageX | .zeroPageY | .relative | .indirectX | .indirectY => d.length == 2
  | .absolute | .absoluteX | .absoluteY | .indirect => d.length == 3

/-- R52: the class `jam` is the halt flag. -/
def Descriptor.haltOk (d : Descriptor) : Bool := d.halt == (d.cls == .jam)

/-- R68: `+p` stands only in the modes AbsoluteX, AbsoluteY and IndirectY. -/
def Descriptor.penaltyOk (d : Descriptor) : Bool :=
  !d.pagePenalty || d.mode == .absoluteX || d.mode == .absoluteY || d.mode == .indirectY

/-- R253: a successful step costs 2 to 8 cycles; the base cost of a JAM is the nominal 0 of R197. -/
def Descriptor.cyclesOk (d : Descriptor) : Bool :=
  match d.cls with
  | .jam => d.baseCycles == 0
  | _ => decide (2 ≤ d.baseCycles) && decide (d.baseCycles ≤ 8)

/-- R62: Indirect is "used only by the jump instruction". -/
def Descriptor.indirectOk (d : Descriptor) : Bool := !(d.mode == .indirect) || d.mnemonic == .JMP

/-- R65: Accumulator is used only by ASL, LSR, ROL and ROR. -/
def Descriptor.accumulatorOk (d : Descriptor) : Bool :=
  !(d.mode == .accumulator) || d.mnemonic == .ASL || d.mnemonic == .LSR || d.mnemonic == .ROL || d.mnemonic == .ROR

/-- The eight branches of R148. -/
def Mnemonic.isBranch (m : Mnemonic) : Bool :=
  m == .BCC || m == .BCS || m == .BEQ || m == .BNE || m == .BMI || m == .BPL || m == .BVC || m == .BVS

/-- R66: Relative is "used only by branch instructions", and a branch has no other mode (R148). -/
def Descriptor.relativeOk (d : Descriptor) : Bool := (d.mode == .relative) == d.mnemonic.isBranch

/-- All the checks of a row. -/
def Descriptor.wellFormed (d : Descriptor) : Bool :=
  d.lengthOk && d.haltOk && d.penaltyOk && d.cyclesOk && d.indirectOk && d.accumulatorOk && d.relativeOk

/-- R4: bit 5 of `RESET_P` "must be 1". -/
def Config.resetPOk (c : Config) : Bool := c.resetP.getLsbD 5

end Sys2Proof
end

