-- ==== Sys2Proof/Decode.lean ====
section
/-! DEFINITION. Encoding tables, decoder and encoder (spec/30_encoding.md R50 to R54, R69 to R75). `lookup` is the total
instruction table of R52 and R69; `instrOf` names the row's constructor; `decode` is total on byte lists and rejects by
name; `encode` writes the bytes of R51. The byte and word helpers of R5 stand here too. -/

namespace Sys2Proof

/-! ### Byte and word helpers (R5) -/

/-- `lo(w) = w[7:0]`. -/
def lo (w : Addr) : Byte := w.setWidth 8

/-- `hi(w) = w[15:8]`. -/
def hi (w : Addr) : Byte := (w >>> 8).setWidth 8

/-- `{h, l} = h * 256 + l`. -/
def word16 (h l : Byte) : Addr := h ++ l

/-- `zext_16(v)`. -/
def zext16 (v : Byte) : Addr := v.setWidth 16

/-- `sext_16(v)`: the word congruent modulo 65536 to the two's-complement reading of `v`. -/
def sext16 (v : Byte) : Addr := v.signExtend 16

/-! ### Modes and operands (R53) -/

/-- The length column of R53's table; the whole instruction, with its opcode byte. -/
def Mode.length : Mode → Nat
  | .implied => 1
  | .accumulator => 1
  | .immediate => 2
  | .zeroPage => 2
  | .zeroPageX => 2
  | .zeroPageY => 2
  | .relative => 2
  | .indirectX => 2
  | .indirectY => 2
  | .absolute => 3
  | .absoluteX => 3
  | .absoluteY => 3
  | .indirect => 3

/-- The mode an operand is written in. -/
def Operand.mode : Operand → Mode
  | .implied => .implied
  | .accumulator => .accumulator
  | .immediate _ => .immediate
  | .zeroPage _ => .zeroPage
  | .zeroPageX _ => .zeroPageX
  | .zeroPageY _ => .zeroPageY
  | .relative _ => .relative
  | .indirectX _ => .indirectX
  | .indirectY _ => .indirectY
  | .absolute _ => .absolute
  | .absoluteX _ => .absoluteX
  | .absoluteY _ => .absoluteY
  | .indirect _ => .indirect

/-- The operand bytes of R51: `b1`, or `b1` (low) and then `b2` (high). -/
def Operand.bytes : Operand → List Byte
  | .implied => []
  | .accumulator => []
  | .immediate b => [b]
  | .zeroPage b => [b]
  | .zeroPageX b => [b]
  | .zeroPageY b => [b]
  | .relative d => [d]
  | .indirectX b => [b]
  | .indirectY b => [b]
  | .absolute w => [lo w, hi w]
  | .absoluteX w => [lo w, hi w]
  | .absoluteY w => [lo w, hi w]
  | .indirect w => [lo w, hi w]

/-! ### The instruction table (R52, R69) -/

/-- One row as R69 prints it: opcode, mnemonic, mode, length, base cycles, `+p`, class. The halt flag is the class `jam`
(R52). -/
def descriptorRow (opcode : Byte) (mnemonic : Mnemonic) (mode : Mode) (length baseCycles : Nat)
    (pagePenalty : Bool) (cls : OpClass) : Descriptor :=
  { opcode, mnemonic, mode, length, baseCycles, pagePenalty, cls, halt := cls == .jam }

/-- Rows 0x00 to 0x0F of R69. -/
def tableRow0 : List Descriptor :=
  [ descriptorRow 0x00 .BRK .implied 1 7 false .official,
    descriptorRow 0x01 .ORA .indirectX 2 6 false .official,
    descriptorRow 0x02 .JAM .implied 1 0 false .jam,
    descriptorRow 0x03 .SLO .indirectX 2 8 false .unofficial,
    descriptorRow 0x04 .NOP .zeroPage 2 3 false .unofficial,
    descriptorRow 0x05 .ORA .zeroPage 2 3 false .official,
    descriptorRow 0x06 .ASL .zeroPage 2 5 false .official,
    descriptorRow 0x07 .SLO .zeroPage 2 5 false .unofficial,
    descriptorRow 0x08 .PHP .implied 1 3 false .official,
    descriptorRow 0x09 .ORA .immediate 2 2 false .official,
    descriptorRow 0x0A .ASL .accumulator 1 2 false .official,
    descriptorRow 0x0B .ANC .immediate 2 2 false .unofficial,
    descriptorRow 0x0C .NOP .absolute 3 4 false .unofficial,
    descriptorRow 0x0D .ORA .absolute 3 4 false .official,
    descriptorRow 0x0E .ASL .absolute 3 6 false .official,
    descriptorRow 0x0F .SLO .absolute 3 6 false .unofficial]

/-- Rows 0x10 to 0x1F of R69. -/
def tableRow1 : List Descriptor :=
  [ descriptorRow 0x10 .BPL .relative 2 2 false .official,
    descriptorRow 0x11 .ORA .indirectY 2 5 true .official,
    descriptorRow 0x12 .JAM .implied 1 0 false .jam,
    descriptorRow 0x13 .SLO .indirectY 2 8 false .unofficial,
    descriptorRow 0x14 .NOP .zeroPageX 2 4 false .unofficial,
    descriptorRow 0x15 .ORA .zeroPageX 2 4 false .official,
    descriptorRow 0x16 .ASL .zeroPageX 2 6 false .official,
    descriptorRow 0x17 .SLO .zeroPageX 2 6 false .unofficial,
    descriptorRow 0x18 .CLC .implied 1 2 false .official,
    descriptorRow 0x19 .ORA .absoluteY 3 4 true .official,
    descriptorRow 0x1A .NOP .implied 1 2 false .unofficial,
    descriptorRow 0x1B .SLO .absoluteY 3 7 false .unofficial,
    descriptorRow 0x1C .NOP .absoluteX 3 4 true .unofficial,
    descriptorRow 0x1D .ORA .absoluteX 3 4 true .official,
    descriptorRow 0x1E .ASL .absoluteX 3 7 false .official,
    descriptorRow 0x1F .SLO .absoluteX 3 7 false .unofficial]

/-- Rows 0x20 to 0x2F of R69. -/
def tableRow2 : List Descriptor :=
  [ descriptorRow 0x20 .JSR .absolute 3 6 false .official,
    descriptorRow 0x21 .AND .indirectX 2 6 false .official,
    descriptorRow 0x22 .JAM .implied 1 0 false .jam,
    descriptorRow 0x23 .RLA .indirectX 2 8 false .unofficial,
    descriptorRow 0x24 .BIT .zeroPage 2 3 false .official,
    descriptorRow 0x25 .AND .zeroPage 2 3 false .official,
    descriptorRow 0x26 .ROL .zeroPage 2 5 false .official,
    descriptorRow 0x27 .RLA .zeroPage 2 5 false .unofficial,
    descriptorRow 0x28 .PLP .implied 1 4 false .official,
    descriptorRow 0x29 .AND .immediate 2 2 false .official,
    descriptorRow 0x2A .ROL .accumulator 1 2 false .official,
    descriptorRow 0x2B .ANC .immediate 2 2 false .unofficial,
    descriptorRow 0x2C .BIT .absolute 3 4 false .official,
    descriptorRow 0x2D .AND .absolute 3 4 false .official,
    descriptorRow 0x2E .ROL .absolute 3 6 false .official,
    descriptorRow 0x2F .RLA .absolute 3 6 false .unofficial]

/-- Rows 0x30 to 0x3F of R69. -/
def tableRow3 : List Descriptor :=
  [ descriptorRow 0x30 .BMI .relative 2 2 false .official,
    descriptorRow 0x31 .AND .indirectY 2 5 true .official,
    descriptorRow 0x32 .JAM .implied 1 0 false .jam,
    descriptorRow 0x33 .RLA .indirectY 2 8 false .unofficial,
    descriptorRow 0x34 .NOP .zeroPageX 2 4 false .unofficial,
    descriptorRow 0x35 .AND .zeroPageX 2 4 false .official,
    descriptorRow 0x36 .ROL .zeroPageX 2 6 false .official,
    descriptorRow 0x37 .RLA .zeroPageX 2 6 false .unofficial,
    descriptorRow 0x38 .SEC .implied 1 2 false .official,
    descriptorRow 0x39 .AND .absoluteY 3 4 true .official,
    descriptorRow 0x3A .NOP .implied 1 2 false .unofficial,
    descriptorRow 0x3B .RLA .absoluteY 3 7 false .unofficial,
    descriptorRow 0x3C .NOP .absoluteX 3 4 true .unofficial,
    descriptorRow 0x3D .AND .absoluteX 3 4 true .official,
    descriptorRow 0x3E .ROL .absoluteX 3 7 false .official,
    descriptorRow 0x3F .RLA .absoluteX 3 7 false .unofficial]

/-- Rows 0x40 to 0x4F of R69. -/
def tableRow4 : List Descriptor :=
  [ descriptorRow 0x40 .RTI .implied 1 6 false .official,
    descriptorRow 0x41 .EOR .indirectX 2 6 false .official,
    descriptorRow 0x42 .JAM .implied 1 0 false .jam,
    descriptorRow 0x43 .SRE .indirectX 2 8 false .unofficial,
    descriptorRow 0x44 .NOP .zeroPage 2 3 false .unofficial,
    descriptorRow 0x45 .EOR .zeroPage 2 3 false .official,
    descriptorRow 0x46 .LSR .zeroPage 2 5 false .official,
    descriptorRow 0x47 .SRE .zeroPage 2 5 false .unofficial,
    descriptorRow 0x48 .PHA .implied 1 3 false .official,
    descriptorRow 0x49 .EOR .immediate 2 2 false .official,
    descriptorRow 0x4A .LSR .accumulator 1 2 false .official,
    descriptorRow 0x4B .ALR .immediate 2 2 false .unofficial,
    descriptorRow 0x4C .JMP .absolute 3 3 false .official,
    descriptorRow 0x4D .EOR .absolute 3 4 false .official,
    descriptorRow 0x4E .LSR .absolute 3 6 false .official,
    descriptorRow 0x4F .SRE .absolute 3 6 false .unofficial]

/-- Rows 0x50 to 0x5F of R69. -/
def tableRow5 : List Descriptor :=
  [ descriptorRow 0x50 .BVC .relative 2 2 false .official,
    descriptorRow 0x51 .EOR .indirectY 2 5 true .official,
    descriptorRow 0x52 .JAM .implied 1 0 false .jam,
    descriptorRow 0x53 .SRE .indirectY 2 8 false .unofficial,
    descriptorRow 0x54 .NOP .zeroPageX 2 4 false .unofficial,
    descriptorRow 0x55 .EOR .zeroPageX 2 4 false .official,
    descriptorRow 0x56 .LSR .zeroPageX 2 6 false .official,
    descriptorRow 0x57 .SRE .zeroPageX 2 6 false .unofficial,
    descriptorRow 0x58 .CLI .implied 1 2 false .official,
    descriptorRow 0x59 .EOR .absoluteY 3 4 true .official,
    descriptorRow 0x5A .NOP .implied 1 2 false .unofficial,
    descriptorRow 0x5B .SRE .absoluteY 3 7 false .unofficial,
    descriptorRow 0x5C .NOP .absoluteX 3 4 true .unofficial,
    descriptorRow 0x5D .EOR .absoluteX 3 4 true .official,
    descriptorRow 0x5E .LSR .absoluteX 3 7 false .official,
    descriptorRow 0x5F .SRE .absoluteX 3 7 false .unofficial]

/-- Rows 0x60 to 0x6F of R69. -/
def tableRow6 : List Descriptor :=
  [ descriptorRow 0x60 .RTS .implied 1 6 false .official,
    descriptorRow 0x61 .ADC .indirectX 2 6 false .official,
    descriptorRow 0x62 .JAM .implied 1 0 false .jam,
    descriptorRow 0x63 .RRA .indirectX 2 8 false .unofficial,
    descriptorRow 0x64 .NOP .zeroPage 2 3 false .unofficial,
    descriptorRow 0x65 .ADC .zeroPage 2 3 false .official,
    descriptorRow 0x66 .ROR .zeroPage 2 5 false .official,
    descriptorRow 0x67 .RRA .zeroPage 2 5 false .unofficial,
    descriptorRow 0x68 .PLA .implied 1 4 false .official,
    descriptorRow 0x69 .ADC .immediate 2 2 false .official,
    descriptorRow 0x6A .ROR .accumulator 1 2 false .official,
    descriptorRow 0x6B .ARR .immediate 2 2 false .unofficial,
    descriptorRow 0x6C .JMP .indirect 3 5 false .official,
    descriptorRow 0x6D .ADC .absolute 3 4 false .official,
    descriptorRow 0x6E .ROR .absolute 3 6 false .official,
    descriptorRow 0x6F .RRA .absolute 3 6 false .unofficial]

/-- Rows 0x70 to 0x7F of R69. -/
def tableRow7 : List Descriptor :=
  [ descriptorRow 0x70 .BVS .relative 2 2 false .official,
    descriptorRow 0x71 .ADC .indirectY 2 5 true .official,
    descriptorRow 0x72 .JAM .implied 1 0 false .jam,
    descriptorRow 0x73 .RRA .indirectY 2 8 false .unofficial,
    descriptorRow 0x74 .NOP .zeroPageX 2 4 false .unofficial,
    descriptorRow 0x75 .ADC .zeroPageX 2 4 false .official,
    descriptorRow 0x76 .ROR .zeroPageX 2 6 false .official,
    descriptorRow 0x77 .RRA .zeroPageX 2 6 false .unofficial,
    descriptorRow 0x78 .SEI .implied 1 2 false .official,
    descriptorRow 0x79 .ADC .absoluteY 3 4 true .official,
    descriptorRow 0x7A .NOP .implied 1 2 false .unofficial,
    descriptorRow 0x7B .RRA .absoluteY 3 7 false .unofficial,
    descriptorRow 0x7C .NOP .absoluteX 3 4 true .unofficial,
    descriptorRow 0x7D .ADC .absoluteX 3 4 true .official,
    descriptorRow 0x7E .ROR .absoluteX 3 7 false .official,
    descriptorRow 0x7F .RRA .absoluteX 3 7 false .unofficial]

/-- Rows 0x80 to 0x8F of R69. -/
def tableRow8 : List Descriptor :=
  [ descriptorRow 0x80 .NOP .immediate 2 2 false .unofficial,
    descriptorRow 0x81 .STA .indirectX 2 6 false .official,
    descriptorRow 0x82 .NOP .immediate 2 2 false .unofficial,
    descriptorRow 0x83 .SAX .indirectX 2 6 false .unofficial,
    descriptorRow 0x84 .STY .zeroPage 2 3 false .official,
    descriptorRow 0x85 .STA .zeroPage 2 3 false .official,
    descriptorRow 0x86 .STX .zeroPage 2 3 false .official,
    descriptorRow 0x87 .SAX .zeroPage 2 3 false .unofficial,
    descriptorRow 0x88 .DEY .implied 1 2 false .official,
    descriptorRow 0x89 .NOP .immediate 2 2 false .unofficial,
    descriptorRow 0x8A .TXA .implied 1 2 false .official,
    descriptorRow 0x8B .ANE .immediate 2 2 false .unimplemented,
    descriptorRow 0x8C .STY .absolute 3 4 false .official,
    descriptorRow 0x8D .STA .absolute 3 4 false .official,
    descriptorRow 0x8E .STX .absolute 3 4 false .official,
    descriptorRow 0x8F .SAX .absolute 3 4 false .unofficial]

/-- Rows 0x90 to 0x9F of R69. -/
def tableRow9 : List Descriptor :=
  [ descriptorRow 0x90 .BCC .relative 2 2 false .official,
    descriptorRow 0x91 .STA .indirectY 2 6 false .official,
    descriptorRow 0x92 .JAM .implied 1 0 false .jam,
    descriptorRow 0x93 .SHA .indirectY 2 6 false .unimplemented,
    descriptorRow 0x94 .STY .zeroPageX 2 4 false .official,
    descriptorRow 0x95 .STA .zeroPageX 2 4 false .official,
    descriptorRow 0x96 .STX .zeroPageY 2 4 false .official,
    descriptorRow 0x97 .SAX .zeroPageY 2 4 false .unofficial,
    descriptorRow 0x98 .TYA .implied 1 2 false .official,
    descriptorRow 0x99 .STA .absoluteY 3 5 false .official,
    descriptorRow 0x9A .TXS .implied 1 2 false .official,
    descriptorRow 0x9B .TAS .absoluteY 3 5 false .unimplemented,
    descriptorRow 0x9C .SHY .absoluteX 3 5 false .unimplemented,
    descriptorRow 0x9D .STA .absoluteX 3 5 false .official,
    descriptorRow 0x9E .SHX .absoluteY 3 5 false .unimplemented,
    descriptorRow 0x9F .SHA .absoluteY 3 5 false .unimplemented]

/-- Rows 0xA0 to 0xAF of R69. -/
def tableRowA : List Descriptor :=
  [ descriptorRow 0xA0 .LDY .immediate 2 2 false .official,
    descriptorRow 0xA1 .LDA .indirectX 2 6 false .official,
    descriptorRow 0xA2 .LDX .immediate 2 2 false .official,
    descriptorRow 0xA3 .LAX .indirectX 2 6 false .unofficial,
    descriptorRow 0xA4 .LDY .zeroPage 2 3 false .official,
    descriptorRow 0xA5 .LDA .zeroPage 2 3 false .official,
    descriptorRow 0xA6 .LDX .zeroPage 2 3 false .official,
    descriptorRow 0xA7 .LAX .zeroPage 2 3 false .unofficial,
    descriptorRow 0xA8 .TAY .implied 1 2 false .official,
    descriptorRow 0xA9 .LDA .immediate 2 2 false .official,
    descriptorRow 0xAA .TAX .implied 1 2 false .official,
    descriptorRow 0xAB .LXA .immediate 2 2 false .unimplemented,
    descriptorRow 0xAC .LDY .absolute 3 4 false .official,
    descriptorRow 0xAD .LDA .absolute 3 4 false .official,
    descriptorRow 0xAE .LDX .absolute 3 4 false .official,
    descriptorRow 0xAF .LAX .absolute 3 4 false .unofficial]

/-- Rows 0xB0 to 0xBF of R69. -/
def tableRowB : List Descriptor :=
  [ descriptorRow 0xB0 .BCS .relative 2 2 false .official,
    descriptorRow 0xB1 .LDA .indirectY 2 5 true .official,
    descriptorRow 0xB2 .JAM .implied 1 0 false .jam,
    descriptorRow 0xB3 .LAX .indirectY 2 5 true .unofficial,
    descriptorRow 0xB4 .LDY .zeroPageX 2 4 false .official,
    descriptorRow 0xB5 .LDA .zeroPageX 2 4 false .official,
    descriptorRow 0xB6 .LDX .zeroPageY 2 4 false .official,
    descriptorRow 0xB7 .LAX .zeroPageY 2 4 false .unofficial,
    descriptorRow 0xB8 .CLV .implied 1 2 false .official,
    descriptorRow 0xB9 .LDA .absoluteY 3 4 true .official,
    descriptorRow 0xBA .TSX .implied 1 2 false .official,
    descriptorRow 0xBB .LAS .absoluteY 3 4 true .unofficial,
    descriptorRow 0xBC .LDY .absoluteX 3 4 true .official,
    descriptorRow 0xBD .LDA .absoluteX 3 4 true .official,
    descriptorRow 0xBE .LDX .absoluteY 3 4 true .official,
    descriptorRow 0xBF .LAX .absoluteY 3 4 true .unofficial]

/-- Rows 0xC0 to 0xCF of R69. -/
def tableRowC : List Descriptor :=
  [ descriptorRow 0xC0 .CPY .immediate 2 2 false .official,
    descriptorRow 0xC1 .CMP .indirectX 2 6 false .official,
    descriptorRow 0xC2 .NOP .immediate 2 2 false .unofficial,
    descriptorRow 0xC3 .DCP .indirectX 2 8 false .unofficial,
    descriptorRow 0xC4 .CPY .zeroPage 2 3 false .official,
    descriptorRow 0xC5 .CMP .zeroPage 2 3 false .official,
    descriptorRow 0xC6 .DEC .zeroPage 2 5 false .official,
    descriptorRow 0xC7 .DCP .zeroPage 2 5 false .unofficial,
    descriptorRow 0xC8 .INY .implied 1 2 false .official,
    descriptorRow 0xC9 .CMP .immediate 2 2 false .official,
    descriptorRow 0xCA .DEX .implied 1 2 false .official,
    descriptorRow 0xCB .SBX .immediate 2 2 false .unofficial,
    descriptorRow 0xCC .CPY .absolute 3 4 false .official,
    descriptorRow 0xCD .CMP .absolute 3 4 false .official,
    descriptorRow 0xCE .DEC .absolute 3 6 false .official,
    descriptorRow 0xCF .DCP .absolute 3 6 false .unofficial]

/-- Rows 0xD0 to 0xDF of R69. -/
def tableRowD : List Descriptor :=
  [ descriptorRow 0xD0 .BNE .relative 2 2 false .official,
    descriptorRow 0xD1 .CMP .indirectY 2 5 true .official,
    descriptorRow 0xD2 .JAM .implied 1 0 false .jam,
    descriptorRow 0xD3 .DCP .indirectY 2 8 false .unofficial,
    descriptorRow 0xD4 .NOP .zeroPageX 2 4 false .unofficial,
    descriptorRow 0xD5 .CMP .zeroPageX 2 4 false .official,
    descriptorRow 0xD6 .DEC .zeroPageX 2 6 false .official,
    descriptorRow 0xD7 .DCP .zeroPageX 2 6 false .unofficial,
    descriptorRow 0xD8 .CLD .implied 1 2 false .official,
    descriptorRow 0xD9 .CMP .absoluteY 3 4 true .official,
    descriptorRow 0xDA .NOP .implied 1 2 false .unofficial,
    descriptorRow 0xDB .DCP .absoluteY 3 7 false .unofficial,
    descriptorRow 0xDC .NOP .absoluteX 3 4 true .unofficial,
    descriptorRow 0xDD .CMP .absoluteX 3 4 true .official,
    descriptorRow 0xDE .DEC .absoluteX 3 7 false .official,
    descriptorRow 0xDF .DCP .absoluteX 3 7 false .unofficial]

/-- Rows 0xE0 to 0xEF of R69. -/
def tableRowE : List Descriptor :=
  [ descriptorRow 0xE0 .CPX .immediate 2 2 false .official,
    descriptorRow 0xE1 .SBC .indirectX 2 6 false .official,
    descriptorRow 0xE2 .NOP .immediate 2 2 false .unofficial,
    descriptorRow 0xE3 .ISC .indirectX 2 8 false .unofficial,
    descriptorRow 0xE4 .CPX .zeroPage 2 3 false .official,
    descriptorRow 0xE5 .SBC .zeroPage 2 3 false .official,
    descriptorRow 0xE6 .INC .zeroPage 2 5 false .official,
    descriptorRow 0xE7 .ISC .zeroPage 2 5 false .unofficial,
    descriptorRow 0xE8 .INX .implied 1 2 false .official,
    descriptorRow 0xE9 .SBC .immediate 2 2 false .official,
    descriptorRow 0xEA .NOP .implied 1 2 false .official,
    descriptorRow 0xEB .SBC .immediate 2 2 false .unofficial,
    descriptorRow 0xEC .CPX .absolute 3 4 false .official,
    descriptorRow 0xED .SBC .absolute 3 4 false .official,
    descriptorRow 0xEE .INC .absolute 3 6 false .official,
    descriptorRow 0xEF .ISC .absolute 3 6 false .unofficial]

/-- Rows 0xF0 to 0xFF of R69. -/
def tableRowF : List Descriptor :=
  [ descriptorRow 0xF0 .BEQ .relative 2 2 false .official,
    descriptorRow 0xF1 .SBC .indirectY 2 5 true .official,
    descriptorRow 0xF2 .JAM .implied 1 0 false .jam,
    descriptorRow 0xF3 .ISC .indirectY 2 8 false .unofficial,
    descriptorRow 0xF4 .NOP .zeroPageX 2 4 false .unofficial,
    descriptorRow 0xF5 .SBC .zeroPageX 2 4 false .official,
    descriptorRow 0xF6 .INC .zeroPageX 2 6 false .official,
    descriptorRow 0xF7 .ISC .zeroPageX 2 6 false .unofficial,
    descriptorRow 0xF8 .SED .implied 1 2 false .official,
    descriptorRow 0xF9 .SBC .absoluteY 3 4 true .official,
    descriptorRow 0xFA .NOP .implied 1 2 false .unofficial,
    descriptorRow 0xFB .ISC .absoluteY 3 7 false .unofficial,
    descriptorRow 0xFC .NOP .absoluteX 3 4 true .unofficial,
    descriptorRow 0xFD .SBC .absoluteX 3 4 true .official,
    descriptorRow 0xFE .INC .absoluteX 3 7 false .official,
    descriptorRow 0xFF .ISC .absoluteX 3 7 false .unofficial]

/-- The sixteen rows of the table whose opcode has high digit `h`. -/
def tableRows (h : Nat) : List Descriptor :=
  match h with
  | 0 => tableRow0
  | 1 => tableRow1
  | 2 => tableRow2
  | 3 => tableRow3
  | 4 => tableRow4
  | 5 => tableRow5
  | 6 => tableRow6
  | 7 => tableRow7
  | 8 => tableRow8
  | 9 => tableRow9
  | 10 => tableRowA
  | 11 => tableRowB
  | 12 => tableRowC
  | 13 => tableRowD
  | 14 => tableRowE
  | _ => tableRowF

/-- `lookup(opcode)` of R52, "total over the full byte range". The default of `getD` is never used: each of the sixteen
lists has sixteen rows. -/
def lookup (opcode : Byte) : Descriptor :=
  (tableRows (opcode.toNat / 16)).getD (opcode.toNat % 16) (descriptorRow opcode .JAM .implied 1 0 false .jam)

/-! ### From bytes to instructions -/

/-- The constructors of rows 0x00 to 0x0F, applied to `b1` or to `{b2, b1}`. -/
def instrRow0 (l : Nat) (b : Byte) (w : Addr) : Instr :=
  match l with
  | 0 => .brk
  | 1 => .oraIzx b
  | 2 => .jam02
  | 3 => .sloIzx b
  | 4 => .nopZp04 b
  | 5 => .oraZp b
  | 6 => .aslZp b
  | 7 => .sloZp b
  | 8 => .php
  | 9 => .oraImm b
  | 10 => .aslAcc
  | 11 => .ancImm0B b
  | 12 => .nopAbs w
  | 13 => .oraAbs w
  | 14 => .aslAbs w
  | _ => .sloAbs w

/-- The constructors of rows 0x10 to 0x1F, applied to `b1` or to `{b2, b1}`. -/
def instrRow1 (l : Nat) (b : Byte) (w : Addr) : Instr :=
  match l with
  | 0 => .bpl b
  | 1 => .oraIzy b
  | 2 => .jam12
  | 3 => .sloIzy b
  | 4 => .nopZpx14 b
  | 5 => .oraZpx b
  | 6 => .aslZpx b
  | 7 => .sloZpx b
  | 8 => .clc
  | 9 => .oraAby w
  | 10 => .nop1A
  | 11 => .sloAby w
  | 12 => .nopAbx1C w
  | 13 => .oraAbx w
  | 14 => .aslAbx w
  | _ => .sloAbx w

/-- The constructors of rows 0x20 to 0x2F, applied to `b1` or to `{b2, b1}`. -/
def instrRow2 (l : Nat) (b : Byte) (w : Addr) : Instr :=
  match l with
  | 0 => .jsr w
  | 1 => .andIzx b
  | 2 => .jam22
  | 3 => .rlaIzx b
  | 4 => .bitZp b
  | 5 => .andZp b
  | 6 => .rolZp b
  | 7 => .rlaZp b
  | 8 => .plp
  | 9 => .andImm b
  | 10 => .rolAcc
  | 11 => .ancImm2B b
  | 12 => .bitAbs w
  | 13 => .andAbs w
  | 14 => .rolAbs w
  | _ => .rlaAbs w

/-- The constructors of rows 0x30 to 0x3F, applied to `b1` or to `{b2, b1}`. -/
def instrRow3 (l : Nat) (b : Byte) (w : Addr) : Instr :=
  match l with
  | 0 => .bmi b
  | 1 => .andIzy b
  | 2 => .jam32
  | 3 => .rlaIzy b
  | 4 => .nopZpx34 b
  | 5 => .andZpx b
  | 6 => .rolZpx b
  | 7 => .rlaZpx b
  | 8 => .sec
  | 9 => .andAby w
  | 10 => .nop3A
  | 11 => .rlaAby w
  | 12 => .nopAbx3C w
  | 13 => .andAbx w
  | 14 => .rolAbx w
  | _ => .rlaAbx w

/-- The constructors of rows 0x40 to 0x4F, applied to `b1` or to `{b2, b1}`. -/
def instrRow4 (l : Nat) (b : Byte) (w : Addr) : Instr :=
  match l with
  | 0 => .rti
  | 1 => .eorIzx b
  | 2 => .jam42
  | 3 => .sreIzx b
  | 4 => .nopZp44 b
  | 5 => .eorZp b
  | 6 => .lsrZp b
  | 7 => .sreZp b
  | 8 => .pha
  | 9 => .eorImm b
  | 10 => .lsrAcc
  | 11 => .alrImm b
  | 12 => .jmpAbs w
  | 13 => .eorAbs w
  | 14 => .lsrAbs w
  | _ => .sreAbs w

/-- The constructors of rows 0x50 to 0x5F, applied to `b1` or to `{b2, b1}`. -/
def instrRow5 (l : Nat) (b : Byte) (w : Addr) : Instr :=
  match l with
  | 0 => .bvc b
  | 1 => .eorIzy b
  | 2 => .jam52
  | 3 => .sreIzy b
  | 4 => .nopZpx54 b
  | 5 => .eorZpx b
  | 6 => .lsrZpx b
  | 7 => .sreZpx b
  | 8 => .cli
  | 9 => .eorAby w
  | 10 => .nop5A
  | 11 => .sreAby w
  | 12 => .nopAbx5C w
  | 13 => .eorAbx w
  | 14 => .lsrAbx w
  | _ => .sreAbx w

/-- The constructors of rows 0x60 to 0x6F, applied to `b1` or to `{b2, b1}`. -/
def instrRow6 (l : Nat) (b : Byte) (w : Addr) : Instr :=
  match l with
  | 0 => .rts
  | 1 => .adcIzx b
  | 2 => .jam62
  | 3 => .rraIzx b
  | 4 => .nopZp64 b
  | 5 => .adcZp b
  | 6 => .rorZp b
  | 7 => .rraZp b
  | 8 => .pla
  | 9 => .adcImm b
  | 10 => .rorAcc
  | 11 => .arrImm b
  | 12 => .jmpInd w
  | 13 => .adcAbs w
  | 14 => .rorAbs w
  | _ => .rraAbs w

/-- The constructors of rows 0x70 to 0x7F, applied to `b1` or to `{b2, b1}`. -/
def instrRow7 (l : Nat) (b : Byte) (w : Addr) : Instr :=
  match l with
  | 0 => .bvs b
  | 1 => .adcIzy b
  | 2 => .jam72
  | 3 => .rraIzy b
  | 4 => .nopZpx74 b
  | 5 => .adcZpx b
  | 6 => .rorZpx b
  | 7 => .rraZpx b
  | 8 => .sei
  | 9 => .adcAby w
  | 10 => .nop7A
  | 11 => .rraAby w
  | 12 => .nopAbx7C w
  | 13 => .adcAbx w
  | 14 => .rorAbx w
  | _ => .rraAbx w

/-- The constructors of rows 0x80 to 0x8F, applied to `b1` or to `{b2, b1}`. -/
def instrRow8 (l : Nat) (b : Byte) (w : Addr) : Instr :=
  match l with
  | 0 => .nopImm80 b
  | 1 => .staIzx b
  | 2 => .nopImm82 b
  | 3 => .saxIzx b
  | 4 => .styZp b
  | 5 => .staZp b
  | 6 => .stxZp b
  | 7 => .saxZp b
  | 8 => .dey
  | 9 => .nopImm89 b
  | 10 => .txa
  | 11 => .aneImm b
  | 12 => .styAbs w
  | 13 => .staAbs w
  | 14 => .stxAbs w
  | _ => .saxAbs w

/-- The constructors of rows 0x90 to 0x9F, applied to `b1` or to `{b2, b1}`. -/
def instrRow9 (l : Nat) (b : Byte) (w : Addr) : Instr :=
  match l with
  | 0 => .bcc b
  | 1 => .staIzy b
  | 2 => .jam92
  | 3 => .shaIzy b
  | 4 => .styZpx b
  | 5 => .staZpx b
  | 6 => .stxZpy b
  | 7 => .saxZpy b
  | 8 => .tya
  | 9 => .staAby w
  | 10 => .txs
  | 11 => .tasAby w
  | 12 => .shyAbx w
  | 13 => .staAbx w
  | 14 => .shxAby w
  | _ => .shaAby w

/-- The constructors of rows 0xA0 to 0xAF, applied to `b1` or to `{b2, b1}`. -/
def instrRowA (l : Nat) (b : Byte) (w : Addr) : Instr :=
  match l with
  | 0 => .ldyImm b
  | 1 => .ldaIzx b
  | 2 => .ldxImm b
  | 3 => .laxIzx b
  | 4 => .ldyZp b
  | 5 => .ldaZp b
  | 6 => .ldxZp b
  | 7 => .laxZp b
  | 8 => .tay
  | 9 => .ldaImm b
  | 10 => .tax
  | 11 => .lxaImm b
  | 12 => .ldyAbs w
  | 13 => .ldaAbs w
  | 14 => .ldxAbs w
  | _ => .laxAbs w

/-- The constructors of rows 0xB0 to 0xBF, applied to `b1` or to `{b2, b1}`. -/
def instrRowB (l : Nat) (b : Byte) (w : Addr) : Instr :=
  match l with
  | 0 => .bcs b
  | 1 => .ldaIzy b
  | 2 => .jamB2
  | 3 => .laxIzy b
  | 4 => .ldyZpx b
  | 5 => .ldaZpx b
  | 6 => .ldxZpy b
  | 7 => .laxZpy b
  | 8 => .clv
  | 9 => .ldaAby w
  | 10 => .tsx
  | 11 => .lasAby w
  | 12 => .ldyAbx w
  | 13 => .ldaAbx w
  | 14 => .ldxAby w
  | _ => .laxAby w

/-- The constructors of rows 0xC0 to 0xCF, applied to `b1` or to `{b2, b1}`. -/
def instrRowC (l : Nat) (b : Byte) (w : Addr) : Instr :=
  match l with
  | 0 => .cpyImm b
  | 1 => .cmpIzx b
  | 2 => .nopImmC2 b
  | 3 => .dcpIzx b
  | 4 => .cpyZp b
  | 5 => .cmpZp b
  | 6 => .decZp b
  | 7 => .dcpZp b
  | 8 => .iny
  | 9 => .cmpImm b
  | 10 => .dex
  | 11 => .sbxImm b
  | 12 => .cpyAbs w
  | 13 => .cmpAbs w
  | 14 => .decAbs w
  | _ => .dcpAbs w

/-- The constructors of rows 0xD0 to 0xDF, applied to `b1` or to `{b2, b1}`. -/
def instrRowD (l : Nat) (b : Byte) (w : Addr) : Instr :=
  match l with
  | 0 => .bne b
  | 1 => .cmpIzy b
  | 2 => .jamD2
  | 3 => .dcpIzy b
  | 4 => .nopZpxD4 b
  | 5 => .cmpZpx b
  | 6 => .decZpx b
  | 7 => .dcpZpx b
  | 8 => .cld
  | 9 => .cmpAby w
  | 10 => .nopDA
  | 11 => .dcpAby w
  | 12 => .nopAbxDC w
  | 13 => .cmpAbx w
  | 14 => .decAbx w
  | _ => .dcpAbx w

/-- The constructors of rows 0xE0 to 0xEF, applied to `b1` or to `{b2, b1}`. -/
def instrRowE (l : Nat) (b : Byte) (w : Addr) : Instr :=
  match l with
  | 0 => .cpxImm b
  | 1 => .sbcIzx b
  | 2 => .nopImmE2 b
  | 3 => .iscIzx b
  | 4 => .cpxZp b
  | 5 => .sbcZp b
  | 6 => .incZp b
  | 7 => .iscZp b
  | 8 => .inx
  | 9 => .sbcImm b
  | 10 => .nop
  | 11 => .sbcImmEB b
  | 12 => .cpxAbs w
  | 13 => .sbcAbs w
  | 14 => .incAbs w
  | _ => .iscAbs w

/-- The constructors of rows 0xF0 to 0xFF, applied to `b1` or to `{b2, b1}`. -/
def instrRowF (l : Nat) (b : Byte) (w : Addr) : Instr :=
  match l with
  | 0 => .beq b
  | 1 => .sbcIzy b
  | 2 => .jamF2
  | 3 => .iscIzy b
  | 4 => .nopZpxF4 b
  | 5 => .sbcZpx b
  | 6 => .incZpx b
  | 7 => .iscZpx b
  | 8 => .sed
  | 9 => .sbcAby w
  | 10 => .nopFA
  | 11 => .iscAby w
  | 12 => .nopAbxFC w
  | 13 => .sbcAbx w
  | 14 => .incAbx w
  | _ => .iscAbx w

/-- The instruction whose bytes are `opcode`, `b1`, `b2`; a byte the length does not reach is ignored. It depends on the
opcode byte alone for everything but the operand (R75). -/
def instrOf (opcode b1 b2 : Byte) : Instr :=
  match opcode.toNat / 16 with
  | 0 => instrRow0 (opcode.toNat % 16) b1 (word16 b2 b1)
  | 1 => instrRow1 (opcode.toNat % 16) b1 (word16 b2 b1)
  | 2 => instrRow2 (opcode.toNat % 16) b1 (word16 b2 b1)
  | 3 => instrRow3 (opcode.toNat % 16) b1 (word16 b2 b1)
  | 4 => instrRow4 (opcode.toNat % 16) b1 (word16 b2 b1)
  | 5 => instrRow5 (opcode.toNat % 16) b1 (word16 b2 b1)
  | 6 => instrRow6 (opcode.toNat % 16) b1 (word16 b2 b1)
  | 7 => instrRow7 (opcode.toNat % 16) b1 (word16 b2 b1)
  | 8 => instrRow8 (opcode.toNat % 16) b1 (word16 b2 b1)
  | 9 => instrRow9 (opcode.toNat % 16) b1 (word16 b2 b1)
  | 10 => instrRowA (opcode.toNat % 16) b1 (word16 b2 b1)
  | 11 => instrRowB (opcode.toNat % 16) b1 (word16 b2 b1)
  | 12 => instrRowC (opcode.toNat % 16) b1 (word16 b2 b1)
  | 13 => instrRowD (opcode.toNat % 16) b1 (word16 b2 b1)
  | 14 => instrRowE (opcode.toNat % 16) b1 (word16 b2 b1)
  | _ => instrRowF (opcode.toNat % 16) b1 (word16 b2 b1)

/-- Decodes the first instruction of a byte list and gives the rest. The number of operand bytes is the row's length less
one (R54, C3). Total: it rejects only a list that is too short, by name. -/
def decode : List Byte → Except DecodeError (Instr × List Byte)
  | [] => .error .noBytes
  | op :: rest =>
    match (lookup op).length, rest with
    | 1, rest => .ok (instrOf op 0 0, rest)
    | 2, b1 :: rest => .ok (instrOf op b1 0, rest)
    | 3, b1 :: b2 :: rest => .ok (instrOf op b1 b2, rest)
    | n, rest => .error (.truncated op (n - 1 - rest.length))

/-! ### From instructions to bytes -/

/-- The mnemonic column of the table. -/
def Instr.mnemonic : Instr → Mnemonic
  | .brk => .BRK
  | .oraIzx _ => .ORA
  | .jam02 => .JAM
  | .sloIzx _ => .SLO
  | .nopZp04 _ => .NOP
  | .oraZp _ => .ORA
  | .aslZp _ => .ASL
  | .sloZp _ => .SLO
  | .php => .PHP
  | .oraImm _ => .ORA
  | .aslAcc => .ASL
  | .ancImm0B _ => .ANC
  | .nopAbs _ => .NOP
  | .oraAbs _ => .ORA
  | .aslAbs _ => .ASL
  | .sloAbs _ => .SLO
  | .bpl _ => .BPL
  | .oraIzy _ => .ORA
  | .jam12 => .JAM
  | .sloIzy _ => .SLO
  | .nopZpx14 _ => .NOP
  | .oraZpx _ => .ORA
  | .aslZpx _ => .ASL
  | .sloZpx _ => .SLO
  | .clc => .CLC
  | .oraAby _ => .ORA
  | .nop1A => .NOP
  | .sloAby _ => .SLO
  | .nopAbx1C _ => .NOP
  | .oraAbx _ => .ORA
  | .aslAbx _ => .ASL
  | .sloAbx _ => .SLO
  | .jsr _ => .JSR
  | .andIzx _ => .AND
  | .jam22 => .JAM
  | .rlaIzx _ => .RLA
  | .bitZp _ => .BIT
  | .andZp _ => .AND
  | .rolZp _ => .ROL
  | .rlaZp _ => .RLA
  | .plp => .PLP
  | .andImm _ => .AND
  | .rolAcc => .ROL
  | .ancImm2B _ => .ANC
  | .bitAbs _ => .BIT
  | .andAbs _ => .AND
  | .rolAbs _ => .ROL
  | .rlaAbs _ => .RLA
  | .bmi _ => .BMI
  | .andIzy _ => .AND
  | .jam32 => .JAM
  | .rlaIzy _ => .RLA
  | .nopZpx34 _ => .NOP
  | .andZpx _ => .AND
  | .rolZpx _ => .ROL
  | .rlaZpx _ => .RLA
  | .sec => .SEC
  | .andAby _ => .AND
  | .nop3A => .NOP
  | .rlaAby _ => .RLA
  | .nopAbx3C _ => .NOP
  | .andAbx _ => .AND
  | .rolAbx _ => .ROL
  | .rlaAbx _ => .RLA
  | .rti => .RTI
  | .eorIzx _ => .EOR
  | .jam42 => .JAM
  | .sreIzx _ => .SRE
  | .nopZp44 _ => .NOP
  | .eorZp _ => .EOR
  | .lsrZp _ => .LSR
  | .sreZp _ => .SRE
  | .pha => .PHA
  | .eorImm _ => .EOR
  | .lsrAcc => .LSR
  | .alrImm _ => .ALR
  | .jmpAbs _ => .JMP
  | .eorAbs _ => .EOR
  | .lsrAbs _ => .LSR
  | .sreAbs _ => .SRE
  | .bvc _ => .BVC
  | .eorIzy _ => .EOR
  | .jam52 => .JAM
  | .sreIzy _ => .SRE
  | .nopZpx54 _ => .NOP
  | .eorZpx _ => .EOR
  | .lsrZpx _ => .LSR
  | .sreZpx _ => .SRE
  | .cli => .CLI
  | .eorAby _ => .EOR
  | .nop5A => .NOP
  | .sreAby _ => .SRE
  | .nopAbx5C _ => .NOP
  | .eorAbx _ => .EOR
  | .lsrAbx _ => .LSR
  | .sreAbx _ => .SRE
  | .rts => .RTS
  | .adcIzx _ => .ADC
  | .jam62 => .JAM
  | .rraIzx _ => .RRA
  | .nopZp64 _ => .NOP
  | .adcZp _ => .ADC
  | .rorZp _ => .ROR
  | .rraZp _ => .RRA
  | .pla => .PLA
  | .adcImm _ => .ADC
  | .rorAcc => .ROR
  | .arrImm _ => .ARR
  | .jmpInd _ => .JMP
  | .adcAbs _ => .ADC
  | .rorAbs _ => .ROR
  | .rraAbs _ => .RRA
  | .bvs _ => .BVS
  | .adcIzy _ => .ADC
  | .jam72 => .JAM
  | .rraIzy _ => .RRA
  | .nopZpx74 _ => .NOP
  | .adcZpx _ => .ADC
  | .rorZpx _ => .ROR
  | .rraZpx _ => .RRA
  | .sei => .SEI
  | .adcAby _ => .ADC
  | .nop7A => .NOP
  | .rraAby _ => .RRA
  | .nopAbx7C _ => .NOP
  | .adcAbx _ => .ADC
  | .rorAbx _ => .ROR
  | .rraAbx _ => .RRA
  | .nopImm80 _ => .NOP
  | .staIzx _ => .STA
  | .nopImm82 _ => .NOP
  | .saxIzx _ => .SAX
  | .styZp _ => .STY
  | .staZp _ => .STA
  | .stxZp _ => .STX
  | .saxZp _ => .SAX
  | .dey => .DEY
  | .nopImm89 _ => .NOP
  | .txa => .TXA
  | .aneImm _ => .ANE
  | .styAbs _ => .STY
  | .staAbs _ => .STA
  | .stxAbs _ => .STX
  | .saxAbs _ => .SAX
  | .bcc _ => .BCC
  | .staIzy _ => .STA
  | .jam92 => .JAM
  | .shaIzy _ => .SHA
  | .styZpx _ => .STY
  | .staZpx _ => .STA
  | .stxZpy _ => .STX
  | .saxZpy _ => .SAX
  | .tya => .TYA
  | .staAby _ => .STA
  | .txs => .TXS
  | .tasAby _ => .TAS
  | .shyAbx _ => .SHY
  | .staAbx _ => .STA
  | .shxAby _ => .SHX
  | .shaAby _ => .SHA
  | .ldyImm _ => .LDY
  | .ldaIzx _ => .LDA
  | .ldxImm _ => .LDX
  | .laxIzx _ => .LAX
  | .ldyZp _ => .LDY
  | .ldaZp _ => .LDA
  | .ldxZp _ => .LDX
  | .laxZp _ => .LAX
  | .tay => .TAY
  | .ldaImm _ => .LDA
  | .tax => .TAX
  | .lxaImm _ => .LXA
  | .ldyAbs _ => .LDY
  | .ldaAbs _ => .LDA
  | .ldxAbs _ => .LDX
  | .laxAbs _ => .LAX
  | .bcs _ => .BCS
  | .ldaIzy _ => .LDA
  | .jamB2 => .JAM
  | .laxIzy _ => .LAX
  | .ldyZpx _ => .LDY
  | .ldaZpx _ => .LDA
  | .ldxZpy _ => .LDX
  | .laxZpy _ => .LAX
  | .clv => .CLV
  | .ldaAby _ => .LDA
  | .tsx => .TSX
  | .lasAby _ => .LAS
  | .ldyAbx _ => .LDY
  | .ldaAbx _ => .LDA
  | .ldxAby _ => .LDX
  | .laxAby _ => .LAX
  | .cpyImm _ => .CPY
  | .cmpIzx _ => .CMP
  | .nopImmC2 _ => .NOP
  | .dcpIzx _ => .DCP
  | .cpyZp _ => .CPY
  | .cmpZp _ => .CMP
  | .decZp _ => .DEC
  | .dcpZp _ => .DCP
  | .iny => .INY
  | .cmpImm _ => .CMP
  | .dex => .DEX
  | .sbxImm _ => .SBX
  | .cpyAbs _ => .CPY
  | .cmpAbs _ => .CMP
  | .decAbs _ => .DEC
  | .dcpAbs _ => .DCP
  | .bne _ => .BNE
  | .cmpIzy _ => .CMP
  | .jamD2 => .JAM
  | .dcpIzy _ => .DCP
  | .nopZpxD4 _ => .NOP
  | .cmpZpx _ => .CMP
  | .decZpx _ => .DEC
  | .dcpZpx _ => .DCP
  | .cld => .CLD
  | .cmpAby _ => .CMP
  | .nopDA => .NOP
  | .dcpAby _ => .DCP
  | .nopAbxDC _ => .NOP
  | .cmpAbx _ => .CMP
  | .decAbx _ => .DEC
  | .dcpAbx _ => .DCP
  | .cpxImm _ => .CPX
  | .sbcIzx _ => .SBC
  | .nopImmE2 _ => .NOP
  | .iscIzx _ => .ISC
  | .cpxZp _ => .CPX
  | .sbcZp _ => .SBC
  | .incZp _ => .INC
  | .iscZp _ => .ISC
  | .inx => .INX
  | .sbcImm _ => .SBC
  | .nop => .NOP
  | .sbcImmEB _ => .SBC
  | .cpxAbs _ => .CPX
  | .sbcAbs _ => .SBC
  | .incAbs _ => .INC
  | .iscAbs _ => .ISC
  | .beq _ => .BEQ
  | .sbcIzy _ => .SBC
  | .jamF2 => .JAM
  | .iscIzy _ => .ISC
  | .nopZpxF4 _ => .NOP
  | .sbcZpx _ => .SBC
  | .incZpx _ => .INC
  | .iscZpx _ => .ISC
  | .sed => .SED
  | .sbcAby _ => .SBC
  | .nopFA => .NOP
  | .iscAby _ => .ISC
  | .nopAbxFC _ => .NOP
  | .sbcAbx _ => .SBC
  | .incAbx _ => .INC
  | .iscAbx _ => .ISC

/-- The opcode column of the table (R69). -/
def Instr.opcode : Instr → Byte
  | .brk => 0x00
  | .oraIzx _ => 0x01
  | .jam02 => 0x02
  | .sloIzx _ => 0x03
  | .nopZp04 _ => 0x04
  | .oraZp _ => 0x05
  | .aslZp _ => 0x06
  | .sloZp _ => 0x07
  | .php => 0x08
  | .oraImm _ => 0x09
  | .aslAcc => 0x0A
  | .ancImm0B _ => 0x0B
  | .nopAbs _ => 0x0C
  | .oraAbs _ => 0x0D
  | .aslAbs _ => 0x0E
  | .sloAbs _ => 0x0F
  | .bpl _ => 0x10
  | .oraIzy _ => 0x11
  | .jam12 => 0x12
  | .sloIzy _ => 0x13
  | .nopZpx14 _ => 0x14
  | .oraZpx _ => 0x15
  | .aslZpx _ => 0x16
  | .sloZpx _ => 0x17
  | .clc => 0x18
  | .oraAby _ => 0x19
  | .nop1A => 0x1A
  | .sloAby _ => 0x1B
  | .nopAbx1C _ => 0x1C
  | .oraAbx _ => 0x1D
  | .aslAbx _ => 0x1E
  | .sloAbx _ => 0x1F
  | .jsr _ => 0x20
  | .andIzx _ => 0x21
  | .jam22 => 0x22
  | .rlaIzx _ => 0x23
  | .bitZp _ => 0x24
  | .andZp _ => 0x25
  | .rolZp _ => 0x26
  | .rlaZp _ => 0x27
  | .plp => 0x28
  | .andImm _ => 0x29
  | .rolAcc => 0x2A
  | .ancImm2B _ => 0x2B
  | .bitAbs _ => 0x2C
  | .andAbs _ => 0x2D
  | .rolAbs _ => 0x2E
  | .rlaAbs _ => 0x2F
  | .bmi _ => 0x30
  | .andIzy _ => 0x31
  | .jam32 => 0x32
  | .rlaIzy _ => 0x33
  | .nopZpx34 _ => 0x34
  | .andZpx _ => 0x35
  | .rolZpx _ => 0x36
  | .rlaZpx _ => 0x37
  | .sec => 0x38
  | .andAby _ => 0x39
  | .nop3A => 0x3A
  | .rlaAby _ => 0x3B
  | .nopAbx3C _ => 0x3C
  | .andAbx _ => 0x3D
  | .rolAbx _ => 0x3E
  | .rlaAbx _ => 0x3F
  | .rti => 0x40
  | .eorIzx _ => 0x41
  | .jam42 => 0x42
  | .sreIzx _ => 0x43
  | .nopZp44 _ => 0x44
  | .eorZp _ => 0x45
  | .lsrZp _ => 0x46
  | .sreZp _ => 0x47
  | .pha => 0x48
  | .eorImm _ => 0x49
  | .lsrAcc => 0x4A
  | .alrImm _ => 0x4B
  | .jmpAbs _ => 0x4C
  | .eorAbs _ => 0x4D
  | .lsrAbs _ => 0x4E
  | .sreAbs _ => 0x4F
  | .bvc _ => 0x50
  | .eorIzy _ => 0x51
  | .jam52 => 0x52
  | .sreIzy _ => 0x53
  | .nopZpx54 _ => 0x54
  | .eorZpx _ => 0x55
  | .lsrZpx _ => 0x56
  | .sreZpx _ => 0x57
  | .cli => 0x58
  | .eorAby _ => 0x59
  | .nop5A => 0x5A
  | .sreAby _ => 0x5B
  | .nopAbx5C _ => 0x5C
  | .eorAbx _ => 0x5D
  | .lsrAbx _ => 0x5E
  | .sreAbx _ => 0x5F
  | .rts => 0x60
  | .adcIzx _ => 0x61
  | .jam62 => 0x62
  | .rraIzx _ => 0x63
  | .nopZp64 _ => 0x64
  | .adcZp _ => 0x65
  | .rorZp _ => 0x66
  | .rraZp _ => 0x67
  | .pla => 0x68
  | .adcImm _ => 0x69
  | .rorAcc => 0x6A
  | .arrImm _ => 0x6B
  | .jmpInd _ => 0x6C
  | .adcAbs _ => 0x6D
  | .rorAbs _ => 0x6E
  | .rraAbs _ => 0x6F
  | .bvs _ => 0x70
  | .adcIzy _ => 0x71
  | .jam72 => 0x72
  | .rraIzy _ => 0x73
  | .nopZpx74 _ => 0x74
  | .adcZpx _ => 0x75
  | .rorZpx _ => 0x76
  | .rraZpx _ => 0x77
  | .sei => 0x78
  | .adcAby _ => 0x79
  | .nop7A => 0x7A
  | .rraAby _ => 0x7B
  | .nopAbx7C _ => 0x7C
  | .adcAbx _ => 0x7D
  | .rorAbx _ => 0x7E
  | .rraAbx _ => 0x7F
  | .nopImm80 _ => 0x80
  | .staIzx _ => 0x81
  | .nopImm82 _ => 0x82
  | .saxIzx _ => 0x83
  | .styZp _ => 0x84
  | .staZp _ => 0x85
  | .stxZp _ => 0x86
  | .saxZp _ => 0x87
  | .dey => 0x88
  | .nopImm89 _ => 0x89
  | .txa => 0x8A
  | .aneImm _ => 0x8B
  | .styAbs _ => 0x8C
  | .staAbs _ => 0x8D
  | .stxAbs _ => 0x8E
  | .saxAbs _ => 0x8F
  | .bcc _ => 0x90
  | .staIzy _ => 0x91
  | .jam92 => 0x92
  | .shaIzy _ => 0x93
  | .styZpx _ => 0x94
  | .staZpx _ => 0x95
  | .stxZpy _ => 0x96
  | .saxZpy _ => 0x97
  | .tya => 0x98
  | .staAby _ => 0x99
  | .txs => 0x9A
  | .tasAby _ => 0x9B
  | .shyAbx _ => 0x9C
  | .staAbx _ => 0x9D
  | .shxAby _ => 0x9E
  | .shaAby _ => 0x9F
  | .ldyImm _ => 0xA0
  | .ldaIzx _ => 0xA1
  | .ldxImm _ => 0xA2
  | .laxIzx _ => 0xA3
  | .ldyZp _ => 0xA4
  | .ldaZp _ => 0xA5
  | .ldxZp _ => 0xA6
  | .laxZp _ => 0xA7
  | .tay => 0xA8
  | .ldaImm _ => 0xA9
  | .tax => 0xAA
  | .lxaImm _ => 0xAB
  | .ldyAbs _ => 0xAC
  | .ldaAbs _ => 0xAD
  | .ldxAbs _ => 0xAE
  | .laxAbs _ => 0xAF
  | .bcs _ => 0xB0
  | .ldaIzy _ => 0xB1
  | .jamB2 => 0xB2
  | .laxIzy _ => 0xB3
  | .ldyZpx _ => 0xB4
  | .ldaZpx _ => 0xB5
  | .ldxZpy _ => 0xB6
  | .laxZpy _ => 0xB7
  | .clv => 0xB8
  | .ldaAby _ => 0xB9
  | .tsx => 0xBA
  | .lasAby _ => 0xBB
  | .ldyAbx _ => 0xBC
  | .ldaAbx _ => 0xBD
  | .ldxAby _ => 0xBE
  | .laxAby _ => 0xBF
  | .cpyImm _ => 0xC0
  | .cmpIzx _ => 0xC1
  | .nopImmC2 _ => 0xC2
  | .dcpIzx _ => 0xC3
  | .cpyZp _ => 0xC4
  | .cmpZp _ => 0xC5
  | .decZp _ => 0xC6
  | .dcpZp _ => 0xC7
  | .iny => 0xC8
  | .cmpImm _ => 0xC9
  | .dex => 0xCA
  | .sbxImm _ => 0xCB
  | .cpyAbs _ => 0xCC
  | .cmpAbs _ => 0xCD
  | .decAbs _ => 0xCE
  | .dcpAbs _ => 0xCF
  | .bne _ => 0xD0
  | .cmpIzy _ => 0xD1
  | .jamD2 => 0xD2
  | .dcpIzy _ => 0xD3
  | .nopZpxD4 _ => 0xD4
  | .cmpZpx _ => 0xD5
  | .decZpx _ => 0xD6
  | .dcpZpx _ => 0xD7
  | .cld => 0xD8
  | .cmpAby _ => 0xD9
  | .nopDA => 0xDA
  | .dcpAby _ => 0xDB
  | .nopAbxDC _ => 0xDC
  | .cmpAbx _ => 0xDD
  | .decAbx _ => 0xDE
  | .dcpAbx _ => 0xDF
  | .cpxImm _ => 0xE0
  | .sbcIzx _ => 0xE1
  | .nopImmE2 _ => 0xE2
  | .iscIzx _ => 0xE3
  | .cpxZp _ => 0xE4
  | .sbcZp _ => 0xE5
  | .incZp _ => 0xE6
  | .iscZp _ => 0xE7
  | .inx => 0xE8
  | .sbcImm _ => 0xE9
  | .nop => 0xEA
  | .sbcImmEB _ => 0xEB
  | .cpxAbs _ => 0xEC
  | .sbcAbs _ => 0xED
  | .incAbs _ => 0xEE
  | .iscAbs _ => 0xEF
  | .beq _ => 0xF0
  | .sbcIzy _ => 0xF1
  | .jamF2 => 0xF2
  | .iscIzy _ => 0xF3
  | .nopZpxF4 _ => 0xF4
  | .sbcZpx _ => 0xF5
  | .incZpx _ => 0xF6
  | .iscZpx _ => 0xF7
  | .sed => 0xF8
  | .sbcAby _ => 0xF9
  | .nopFA => 0xFA
  | .iscAby _ => 0xFB
  | .nopAbxFC _ => 0xFC
  | .sbcAbx _ => 0xFD
  | .incAbx _ => 0xFE
  | .iscAbx _ => 0xFF

/-- The operand an instruction carries, in the mode column of the table (R53, R69). -/
def Instr.operand : Instr → Operand
  | .brk => .implied
  | .oraIzx b => .indirectX b
  | .jam02 => .implied
  | .sloIzx b => .indirectX b
  | .nopZp04 b => .zeroPage b
  | .oraZp b => .zeroPage b
  | .aslZp b => .zeroPage b
  | .sloZp b => .zeroPage b
  | .php => .implied
  | .oraImm b => .immediate b
  | .aslAcc => .accumulator
  | .ancImm0B b => .immediate b
  | .nopAbs w => .absolute w
  | .oraAbs w => .absolute w
  | .aslAbs w => .absolute w
  | .sloAbs w => .absolute w
  | .bpl d => .relative d
  | .oraIzy b => .indirectY b
  | .jam12 => .implied
  | .sloIzy b => .indirectY b
  | .nopZpx14 b => .zeroPageX b
  | .oraZpx b => .zeroPageX b
  | .aslZpx b => .zeroPageX b
  | .sloZpx b => .zeroPageX b
  | .clc => .implied
  | .oraAby w => .absoluteY w
  | .nop1A => .implied
  | .sloAby w => .absoluteY w
  | .nopAbx1C w => .absoluteX w
  | .oraAbx w => .absoluteX w
  | .aslAbx w => .absoluteX w
  | .sloAbx w => .absoluteX w
  | .jsr w => .absolute w
  | .andIzx b => .indirectX b
  | .jam22 => .implied
  | .rlaIzx b => .indirectX b
  | .bitZp b => .zeroPage b
  | .andZp b => .zeroPage b
  | .rolZp b => .zeroPage b
  | .rlaZp b => .zeroPage b
  | .plp => .implied
  | .andImm b => .immediate b
  | .rolAcc => .accumulator
  | .ancImm2B b => .immediate b
  | .bitAbs w => .absolute w
  | .andAbs w => .absolute w
  | .rolAbs w => .absolute w
  | .rlaAbs w => .absolute w
  | .bmi d => .relative d
  | .andIzy b => .indirectY b
  | .jam32 => .implied
  | .rlaIzy b => .indirectY b
  | .nopZpx34 b => .zeroPageX b
  | .andZpx b => .zeroPageX b
  | .rolZpx b => .zeroPageX b
  | .rlaZpx b => .zeroPageX b
  | .sec => .implied
  | .andAby w => .absoluteY w
  | .nop3A => .implied
  | .rlaAby w => .absoluteY w
  | .nopAbx3C w => .absoluteX w
  | .andAbx w => .absoluteX w
  | .rolAbx w => .absoluteX w
  | .rlaAbx w => .absoluteX w
  | .rti => .implied
  | .eorIzx b => .indirectX b
  | .jam42 => .implied
  | .sreIzx b => .indirectX b
  | .nopZp44 b => .zeroPage b
  | .eorZp b => .zeroPage b
  | .lsrZp b => .zeroPage b
  | .sreZp b => .zeroPage b
  | .pha => .implied
  | .eorImm b => .immediate b
  | .lsrAcc => .accumulator
  | .alrImm b => .immediate b
  | .jmpAbs w => .absolute w
  | .eorAbs w => .absolute w
  | .lsrAbs w => .absolute w
  | .sreAbs w => .absolute w
  | .bvc d => .relative d
  | .eorIzy b => .indirectY b
  | .jam52 => .implied
  | .sreIzy b => .indirectY b
  | .nopZpx54 b => .zeroPageX b
  | .eorZpx b => .zeroPageX b
  | .lsrZpx b => .zeroPageX b
  | .sreZpx b => .zeroPageX b
  | .cli => .implied
  | .eorAby w => .absoluteY w
  | .nop5A => .implied
  | .sreAby w => .absoluteY w
  | .nopAbx5C w => .absoluteX w
  | .eorAbx w => .absoluteX w
  | .lsrAbx w => .absoluteX w
  | .sreAbx w => .absoluteX w
  | .rts => .implied
  | .adcIzx b => .indirectX b
  | .jam62 => .implied
  | .rraIzx b => .indirectX b
  | .nopZp64 b => .zeroPage b
  | .adcZp b => .zeroPage b
  | .rorZp b => .zeroPage b
  | .rraZp b => .zeroPage b
  | .pla => .implied
  | .adcImm b => .immediate b
  | .rorAcc => .accumulator
  | .arrImm b => .immediate b
  | .jmpInd w => .indirect w
  | .adcAbs w => .absolute w
  | .rorAbs w => .absolute w
  | .rraAbs w => .absolute w
  | .bvs d => .relative d
  | .adcIzy b => .indirectY b
  | .jam72 => .implied
  | .rraIzy b => .indirectY b
  | .nopZpx74 b => .zeroPageX b
  | .adcZpx b => .zeroPageX b
  | .rorZpx b => .zeroPageX b
  | .rraZpx b => .zeroPageX b
  | .sei => .implied
  | .adcAby w => .absoluteY w
  | .nop7A => .implied
  | .rraAby w => .absoluteY w
  | .nopAbx7C w => .absoluteX w
  | .adcAbx w => .absoluteX w
  | .rorAbx w => .absoluteX w
  | .rraAbx w => .absoluteX w
  | .nopImm80 b => .immediate b
  | .staIzx b => .indirectX b
  | .nopImm82 b => .immediate b
  | .saxIzx b => .indirectX b
  | .styZp b => .zeroPage b
  | .staZp b => .zeroPage b
  | .stxZp b => .zeroPage b
  | .saxZp b => .zeroPage b
  | .dey => .implied
  | .nopImm89 b => .immediate b
  | .txa => .implied
  | .aneImm b => .immediate b
  | .styAbs w => .absolute w
  | .staAbs w => .absolute w
  | .stxAbs w => .absolute w
  | .saxAbs w => .absolute w
  | .bcc d => .relative d
  | .staIzy b => .indirectY b
  | .jam92 => .implied
  | .shaIzy b => .indirectY b
  | .styZpx b => .zeroPageX b
  | .staZpx b => .zeroPageX b
  | .stxZpy b => .zeroPageY b
  | .saxZpy b => .zeroPageY b
  | .tya => .implied
  | .staAby w => .absoluteY w
  | .txs => .implied
  | .tasAby w => .absoluteY w
  | .shyAbx w => .absoluteX w
  | .staAbx w => .absoluteX w
  | .shxAby w => .absoluteY w
  | .shaAby w => .absoluteY w
  | .ldyImm b => .immediate b
  | .ldaIzx b => .indirectX b
  | .ldxImm b => .immediate b
  | .laxIzx b => .indirectX b
  | .ldyZp b => .zeroPage b
  | .ldaZp b => .zeroPage b
  | .ldxZp b => .zeroPage b
  | .laxZp b => .zeroPage b
  | .tay => .implied
  | .ldaImm b => .immediate b
  | .tax => .implied
  | .lxaImm b => .immediate b
  | .ldyAbs w => .absolute w
  | .ldaAbs w => .absolute w
  | .ldxAbs w => .absolute w
  | .laxAbs w => .absolute w
  | .bcs d => .relative d
  | .ldaIzy b => .indirectY b
  | .jamB2 => .implied
  | .laxIzy b => .indirectY b
  | .ldyZpx b => .zeroPageX b
  | .ldaZpx b => .zeroPageX b
  | .ldxZpy b => .zeroPageY b
  | .laxZpy b => .zeroPageY b
  | .clv => .implied
  | .ldaAby w => .absoluteY w
  | .tsx => .implied
  | .lasAby w => .absoluteY w
  | .ldyAbx w => .absoluteX w
  | .ldaAbx w => .absoluteX w
  | .ldxAby w => .absoluteY w
  | .laxAby w => .absoluteY w
  | .cpyImm b => .immediate b
  | .cmpIzx b => .indirectX b
  | .nopImmC2 b => .immediate b
  | .dcpIzx b => .indirectX b
  | .cpyZp b => .zeroPage b
  | .cmpZp b => .zeroPage b
  | .decZp b => .zeroPage b
  | .dcpZp b => .zeroPage b
  | .iny => .implied
  | .cmpImm b => .immediate b
  | .dex => .implied
  | .sbxImm b => .immediate b
  | .cpyAbs w => .absolute w
  | .cmpAbs w => .absolute w
  | .decAbs w => .absolute w
  | .dcpAbs w => .absolute w
  | .bne d => .relative d
  | .cmpIzy b => .indirectY b
  | .jamD2 => .implied
  | .dcpIzy b => .indirectY b
  | .nopZpxD4 b => .zeroPageX b
  | .cmpZpx b => .zeroPageX b
  | .decZpx b => .zeroPageX b
  | .dcpZpx b => .zeroPageX b
  | .cld => .implied
  | .cmpAby w => .absoluteY w
  | .nopDA => .implied
  | .dcpAby w => .absoluteY w
  | .nopAbxDC w => .absoluteX w
  | .cmpAbx w => .absoluteX w
  | .decAbx w => .absoluteX w
  | .dcpAbx w => .absoluteX w
  | .cpxImm b => .immediate b
  | .sbcIzx b => .indirectX b
  | .nopImmE2 b => .immediate b
  | .iscIzx b => .indirectX b
  | .cpxZp b => .zeroPage b
  | .sbcZp b => .zeroPage b
  | .incZp b => .zeroPage b
  | .iscZp b => .zeroPage b
  | .inx => .implied
  | .sbcImm b => .immediate b
  | .nop => .implied
  | .sbcImmEB b => .immediate b
  | .cpxAbs w => .absolute w
  | .sbcAbs w => .absolute w
  | .incAbs w => .absolute w
  | .iscAbs w => .absolute w
  | .beq d => .relative d
  | .sbcIzy b => .indirectY b
  | .jamF2 => .implied
  | .iscIzy b => .indirectY b
  | .nopZpxF4 b => .zeroPageX b
  | .sbcZpx b => .zeroPageX b
  | .incZpx b => .zeroPageX b
  | .iscZpx b => .zeroPageX b
  | .sed => .implied
  | .sbcAby w => .absoluteY w
  | .nopFA => .implied
  | .iscAby w => .absoluteY w
  | .nopAbxFC w => .absoluteX w
  | .sbcAbx w => .absoluteX w
  | .incAbx w => .absoluteX w
  | .iscAbx w => .absoluteX w

/-- The bytes of an instruction: the opcode byte, then the operand bytes at ascending addresses (R50, R51). -/
def encode (i : Instr) : List Byte := i.opcode :: i.operand.bytes

/-- The descriptor of an instruction. -/
def Instr.descriptor (i : Instr) : Descriptor := lookup i.opcode

/-- The length of an instruction in bytes (R52). -/
def Instr.length (i : Instr) : Nat := i.descriptor.length

/-- The instruction the decoder reads from the bytes that `w` holds, the first byte in bits 7 to 0; every bit from `nbits`
up is 0. Three bytes are laid out, the longest instruction (R50). -/
def decodeTableWord (nbits w : Nat) : Option Instr :=
  let v := w % 2 ^ nbits
  match decode [BitVec.ofNat 8 v, BitVec.ofNat 8 (v / 256), BitVec.ofNat 8 (v / 65536)] with
  | .ok (i, _) => some i
  | .error _ => none

end Sys2Proof
end

