-- ==== Sys2Proof/Machine/Memory.lean ====
section
/-! DEFINITION. The reference bus `FlatRam` (spec/20_memory.md R32, R49): 65536 byte cells as a list in one canonical form,
reading and writing a cell, the platform they make with a configuration, and the host's load of a program. -/

namespace Sys2Proof.Machine

open Sys2Proof

/-- The 65536 byte cells of R49: the cells that do not hold 0x00, by rising address. `Memory.wf` is that form. -/
abbrev Memory := List Host.Cell

/-- What an address that is not listed reads as: "initially zero where not loaded" (D23, R49; log 1). -/
def unlistedByte : Byte := 0x00

/-- The byte at an address. -/
def Memory.read : Memory → Addr → Byte
  | [], _ => unlistedByte
  | c :: m, a => if c.1 = a.toNat then c.2 else Memory.read m a

/-- The memory without the cells listed at `k`. -/
def Memory.unlist : Memory → Nat → Memory
  | [], _ => []
  | c :: m, k => if c.1 = k then Memory.unlist m k else c :: Memory.unlist m k

/-- Lists a cell before the first cell of a higher address. -/
def Memory.place (k : Nat) (v : Byte) : Memory → Memory
  | [] => [(k, v)]
  | c :: m => if k < c.1 then (k, v) :: c :: m else c :: Memory.place k v m

/-- The memory with the cell at `a` replaced by `v` (R49). Writing what an unlisted address reads as unlists the cell. -/
def Memory.write (m : Memory) (a : Addr) (v : Byte) : Memory :=
  if v = unlistedByte then m.unlist a.toNat else (m.unlist a.toNat).place a.toNat v

/-- The canonical form: addresses strictly rising and below 65536, and no cell that holds what an unlisted address reads
as. -/
abbrev Memory.wf (m : Memory) : Prop :=
  m.Pairwise (fun c d => c.1 < d.1) ∧ ∀ c ∈ m, c.1 < 65536 ∧ c.2 ≠ unlistedByte

/-- FlatRam with a configuration (R49): `read(m, a) = (m(a), m)`, and a write replaces one cell. -/
def Platform.flat (c : Config) : Platform Memory where
  config := c
  read := fun m a => (m.read a, m)
  write := Memory.write

/-- The platform of `State`, `exec` and `step`: FlatRam and the defaults of R4 (logs 1 and 17). -/
def Platform.machine : Platform Memory := Platform.flat Config.machine

/-- Stores bytes at ascending addresses from `a` on, modulo 65536. It is the host's load of a program, not a bus call of
the core (R24, R246; log 6). -/
def Memory.load : Memory → Addr → List Byte → Memory
  | m, _, [] => m
  | m, a, v :: vs => Memory.load (m.write a v) (a + 1) vs

end Sys2Proof.Machine
end

