-- ==== Sys2Proof/Machine/State.lean ====
section
/-! DEFINITION. The state of the machine (spec/10_state.md), the two ways a step can stop (spec/60_exceptions.md), and
the state after reset (R25). -/

namespace Sys2Proof.Machine

open Sys2Proof

/-- The status register `P` (R16): seven stored flags. The constant bit `P.U` is no cell; `pack` makes it 1 (R17, C6,
log 10). -/
structure Status where
  /-- Carry, bit 0 of the packed byte. -/
  C : Bool
  /-- Zero, bit 1. -/
  Z : Bool
  /-- InterruptDisable, bit 2; it masks nothing (R218). -/
  I : Bool
  /-- DecimalMode, bit 3; no arithmetic reads it (R108). -/
  D : Bool
  /-- Break, bit 4, a stored flag (R20). -/
  B : Bool
  /-- Overflow, bit 6. -/
  V : Bool
  /-- Negative, bit 7. -/
  N : Bool
  deriving DecidableEq, Repr

/-- One call of the bus (R30), with the byte that moved. -/
inductive BusAccess where
  | read (a : Addr) (v : Byte)
  | write (a : Addr) (v : Byte)
  deriving DecidableEq, Repr

/-- Everything the spec gives the machine on a platform `M`: the `CpuState` of R23 and the bus state (R30). `cycles` and
`bus` are the model's own fields (log 3): outputs of the last step, which no instruction reads. -/
structure State.On {β : Type} (M : Platform β) where
  /-- Accumulator (R10). -/
  A : Byte
  /-- Index register X (R11). -/
  X : Byte
  /-- Index register Y (R12). -/
  Y : Byte
  /-- Stack pointer, the low byte of an address in page 1 (R13). -/
  S : Byte
  /-- Program counter (R14, R15). -/
  PC : Addr
  /-- Status register (R16). -/
  P : Status
  /-- The one stopped state of the machine (R22, R222). -/
  halted : Bool
  /-- The bus state (R30). -/
  mem : β
  /-- The cycle count of the last step (R68), none where it returned none (R211) or no step was made (R240). -/
  cycles : Option CycleCount
  /-- The bus calls of the last step or of reset, oldest first (R43, R44). -/
  bus : List BusAccess
  deriving DecidableEq, Repr

/-- The state of the machine on FlatRam with the defaults of R4: its bus state is the memory of R49, plain data (log 1). -/
abbrev State := State.On Platform.machine

/-- The failure outcome of R210 that leaves nothing to run on. -/
inductive Fault where
  /-- `SteppedWhileHalted` (R213), raised by `step` when `halted` is 1; nothing is read and nothing changes. Safe: the spec
  names this outcome. -/
  | steppedWhileHalted
  deriving DecidableEq, Repr

/-- Instructions without a meaning. -/
inductive Refusal where
  /-- Raised by an arm of `exec` whose instruction has no meaning yet; no arm does. Safe: the machine stops by name. -/
  | notModelled (mnemonic : String)
  /-- `UnimplementedBehavior(opcode, address)` (R212), raised by the seven unstable opcodes (R198 to R203); the state before
  the step stands. Safe: the spec names this outcome and calls it a refusal. -/
  | unimplementedBehavior (opcode : Byte) (address : Addr)
  deriving DecidableEq, Repr

/-- What a step or an instruction answers on a platform. -/
abbrev ResultOn {β : Type} (M : Platform β) := Host.Outcome (State.On M) Fault Refusal

/-- What a meaning answers. -/
abbrev Result := ResultOn Platform.machine

/-! ### One setter for each field -/

variable {β : Type} {M : Platform β}

def State.On.setA (v : Byte) (s : State.On M) : State.On M := { s with A := v }
def State.On.setX (v : Byte) (s : State.On M) : State.On M := { s with X := v }
def State.On.setY (v : Byte) (s : State.On M) : State.On M := { s with Y := v }
def State.On.setS (v : Byte) (s : State.On M) : State.On M := { s with S := v }
def State.On.setPC (v : Addr) (s : State.On M) : State.On M := { s with PC := v }
def State.On.setP (v : Status) (s : State.On M) : State.On M := { s with P := v }
def State.On.setHalted (v : Bool) (s : State.On M) : State.On M := { s with halted := v }
def State.On.setMem (v : β) (s : State.On M) : State.On M := { s with mem := v }
def State.On.setCycles (v : Option CycleCount) (s : State.On M) : State.On M := { s with cycles := v }
def State.On.setBus (v : List BusAccess) (s : State.On M) : State.On M := { s with bus := v }

/-- The reset values of R25 on a platform, with bus state `b`; no vector is read, and PC is 0x0000 until the caller sets it
(R246). -/
def State.On.powerUp (M : Platform β) (b : β) : State.On M where
  A := M.config.resetA
  X := M.config.resetX
  Y := M.config.resetY
  S := M.config.resetS
  PC := 0x0000
  P :=
    { C := M.config.resetP.getLsbD 0
      Z := M.config.resetP.getLsbD 1
      I := M.config.resetP.getLsbD 2
      D := M.config.resetP.getLsbD 3
      B := M.config.resetP.getLsbD 4
      V := M.config.resetP.getLsbD 6
      N := M.config.resetP.getLsbD 7 }
  halted := false
  mem := b
  cycles := none
  bus := []

/-- The state after reset (R25, R240) on a memory that lists nothing, where both bytes of the reset vector read 0x00
(R245: "on FlatRam with zeroed vectors, reset gives `PC = 0x0000`"). `State.On.resetFrom` of Machine/Ops.lean is the
procedure from any state; the tests show that the two agree. -/
def State.reset : State :=
  { State.On.powerUp Platform.machine [] with
    bus := [.read Config.machine.resetVector 0x00, .read (Config.machine.resetVector + 1) 0x00] }

end Sys2Proof.Machine
end

