-- ==== Sys2Proof/Machine/Flags.lean ====
section
/-! DEFINITION. The status register and every flag computation of the spec: `Pack` and `Unpack` (spec/10_state.md R17 to
R21), the adder and the comparison (spec/42_arithmetic_logic.md R108, R109), and the four shifts
(spec/43_shift_rotate.md R135 to R138). -/

namespace Sys2Proof.Machine

open Sys2Proof

variable {β : Type} {M : Platform β}

/-- `Pack()` of R18: the constant bit is 1, the stored `P.B` is not forced. -/
def Status.pack (p : Status) : Byte :=
  BitVec.ofNat 8 (p.N.toNat * 128 + p.V.toNat * 64 + 32 + p.B.toNat * 16 + p.D.toNat * 8 + p.I.toNat * 4
    + p.Z.toNat * 2 + p.C.toNat)

/-- `Unpack(b)` of R19: bit 5 is ignored, bit 4 is loaded into `P.B`. -/
def Status.unpack (b : Byte) : Status where
  C := b.getLsbD 0
  Z := b.getLsbD 1
  I := b.getLsbD 2
  D := b.getLsbD 3
  B := b.getLsbD 4
  V := b.getLsbD 6
  N := b.getLsbD 7

/-- `SetNZ(v)` of R21. -/
def Status.setNZ (v : Byte) (p : Status) : Status := { p with Z := v == 0, N := v.getLsbD 7 }

/-- `SetNZ` on the machine's status register. -/
def State.On.setNZ (v : Byte) (s : State.On M) : State.On M := s.setP (s.P.setNZ v)

/-! ### The adder and the comparison -/

/-- `AddCore(m)` of R108, the one adder of the machine. `P.D` is not read. -/
def State.On.addCore (m : Byte) (s : State.On M) : State.On M :=
  let sum := s.A.toNat + m.toNat + s.P.C.toNat
  let r : Byte := BitVec.ofNat 8 sum
  let p := { s.P with C := decide (sum > 0xFF), V := ((s.A ^^^ r) &&& (m ^^^ r)).getLsbD 7 }
  (s.setA r).setP (p.setNZ r)

/-- `Compare(reg, m)` of R109: C, Z and N from `reg - m`; `P.V` stays. -/
def State.On.compare (reg m : Byte) (s : State.On M) : State.On M :=
  let d := reg - m
  s.setP { s.P with C := decide (m.toNat ≤ reg.toNat), Z := reg == m, N := d.getLsbD 7 }

/-! ### The functions the read-modify-write template takes (R134)

Each maps the old byte and the status register to the new byte and the status register it leaves. -/

/-- ASL: `P.C <- m[7]; (m << 1) mod 256` (R135). -/
def shiftLeft (m : Byte) (p : Status) : Byte × Status := (m <<< 1, { p with C := m.getLsbD 7 })

/-- LSR: `P.C <- m[0]; m >> 1` (R136). -/
def shiftRight (m : Byte) (p : Status) : Byte × Status := (m >>> 1, { p with C := m.getLsbD 0 })

/-- The carry as a byte, 0 or 1. -/
def carryByte (p : Status) : Byte := BitVec.ofNat 8 p.C.toNat

/-- ROL: `c <- P.C; P.C <- m[7]; ((m << 1) | c) mod 256` (R137). -/
def rotateLeft (m : Byte) (p : Status) : Byte × Status := ((m <<< 1) ||| carryByte p, { p with C := m.getLsbD 7 })

/-- ROR: `c <- P.C; P.C <- m[0]; (m >> 1) | (c << 7)` (R138). -/
def rotateRight (m : Byte) (p : Status) : Byte × Status :=
  ((m >>> 1) ||| (carryByte p <<< 7), { p with C := m.getLsbD 0 })

/-- INC: `m +8 1`, no flag (R119). -/
def increment (m : Byte) (p : Status) : Byte × Status := (m + 1, p)

/-- DEC: `m -8 1`, no flag (R120). -/
def decrement (m : Byte) (p : Status) : Byte × Status := (m - 1, p)

end Sys2Proof.Machine
end

