-- ==== Sys2Proof/Machine/Ops.lean ====
section
/-! DEFINITION. The named operations over bus and registers, on any platform: the bus calls of
spec/20_memory.md R30 with their record (R43, R44), the 16-bit reads of R37, the stack of R38 to R40, the entry and the
return of the one trap (spec/60_exceptions.md R216, R217), and the reset procedure (spec/70_reset_and_hazards.md R240). -/

namespace Sys2Proof.Machine

open Sys2Proof

variable {β : Type} {M : Platform β}

/-! ### Bus calls (R30, R43) -/

/-- Records a bus call, after those already made in this step. -/
def State.On.record (b : BusAccess) (s : State.On M) : State.On M := s.setBus (s.bus ++ [b])

/-- `MemRead(a, 1)`: one call of the platform's bus read, which may change the bus state. -/
def State.On.busRead (a : Addr) (s : State.On M) : Byte × State.On M :=
  let r := M.read s.mem a
  (r.1, (s.setMem r.2).record (.read a r.1))

/-- `MemWrite(a, 1, v)`: one call of the platform's bus write. -/
def State.On.busWrite (a : Addr) (v : Byte) (s : State.On M) : State.On M :=
  (s.setMem (M.write s.mem a v)).record (.write a v)

/-! ### The 16-bit reads (R37), low byte first -/

/-- The two reads shared by the three primitives: the low byte at `la`, then the high byte at `ha`. -/
def State.On.readPair (la ha : Addr) (s : State.On M) : Addr × State.On M :=
  let l := s.busRead la
  let h := l.2.busRead ha
  (word16 h.1 l.1, h.2)

/-- `Read16(a)`: the high byte at `a +16 1`. -/
def State.On.read16 (a : Addr) (s : State.On M) : Addr × State.On M := s.readPair a (a + 1)

/-- `Read16ZP(p)`: the high byte at `{0x00, p +8 1}`. -/
def State.On.read16ZP (p : Byte) (s : State.On M) : Addr × State.On M := s.readPair (zext16 p) (zext16 (p + 1))

/-- `Read16SamePage(a)`: the high byte at `{hi(a), lo(a) +8 1}`. -/
def State.On.read16SamePage (a : Addr) (s : State.On M) : Addr × State.On M := s.readPair a (word16 (hi a) (lo a + 1))

/-! ### The stack (R38 to R40) -/

/-- The address `{0x01, S}`. -/
def stackAddr (sp : Byte) : Addr := word16 0x01 sp

/-- `Push(v)` of R38. -/
def State.On.push (v : Byte) (s : State.On M) : State.On M := (s.busWrite (stackAddr s.S) v).setS (s.S - 1)

/-- `Pull()` of R39. -/
def State.On.pull (s : State.On M) : Byte × State.On M := (s.setS (s.S + 1)).busRead (stackAddr (s.S + 1))

/-- A 16-bit push: high byte first (R40). -/
def State.On.push16 (w : Addr) (s : State.On M) : State.On M := (s.push (hi w)).push (lo w)

/-- A 16-bit pull: low byte first (R40). -/
def State.On.pull16 (s : State.On M) : Addr × State.On M :=
  let l := s.pull
  let h := l.2.pull
  (word16 h.1 l.1, h.2)

/-! ### The one trap (R157, R158, R216, R217) -/

/-- Taking the trap, from the address to resume at: push that address, push `Pack() | 0x10` (the flags before `P.I` is
set; the stored `P.B` stays), set `P.I`, load `PC` from `BRK_VECTOR`. -/
def State.On.takeTrap (ret : Addr) (s : State.On M) : State.On M :=
  let s1 := (s.push16 ret).push (s.P.pack ||| 0x10)
  let s2 := s1.setP { s1.P with I := true }
  let v := s2.read16 M.config.brkVector
  v.2.setPC v.1

/-- Returning from the trap: pull the status byte, then the address, and continue there (R217). -/
def State.On.returnFromTrap (s : State.On M) : State.On M :=
  let b := s.pull
  let w := (b.2.setP (Status.unpack b.1)).pull16
  w.2.setPC w.1

/-! ### Reset (R240 to R243) -/

/-- The reset procedure of R240 with the parameters of a configuration: every register assigned, `halted` cleared, the two
reads of the reset vector and no other bus call, memory as it was (R242). It returns no cycle count. -/
def State.On.resetWith (c : Config) (s : State.On M) : State.On M :=
  let s1 := (((s.setA c.resetA).setX c.resetX).setY c.resetY).setS c.resetS
  let s2 := ((s1.setP (Status.unpack c.resetP)).setHalted false).setCycles none
  let v := (s2.setBus []).read16 c.resetVector
  v.2.setPC v.1

/-- Reset with the platform's own parameters, from any state (R241, R243). -/
def State.On.resetFrom (s : State.On M) : State.On M := s.resetWith M.config

end Sys2Proof.Machine
end

