-- ==== Sys2Proof/Machine/Operands.lean ====
section
/-! DEFINITION. The operand forms (spec/30_encoding.md R55 to R67, R72): the resolver of the 13 addressing modes, and the
reading and writing of a resolved operand. The resolver runs when `PC` holds `PCnext` (R54). -/

namespace Sys2Proof.Machine

open Sys2Proof

variable {β : Type} {M : Platform β}

/-- The resolver's operand: "either a concrete 16-bit address ... or an immediate 8-bit value ... or 'no operand'
(Accumulator/Implied)". -/
inductive EffectiveOperand where
  | none
  | value (v : Byte)
  | address (ea : Addr)
  deriving DecidableEq, Repr

/-- What the resolver produces. -/
structure Resolved where
  operand : EffectiveOperand
  pageCrossed : Bool
  deriving DecidableEq, Repr

/-- `hi(a) != hi(b)`. -/
def differentPage (a b : Addr) : Bool := hi a != hi b

/-- The operand at `ea`, with no page crossed. -/
def Resolved.at (ea : Addr) : Resolved := ⟨.address ea, false⟩

/-- The operand at `base +16 i`; the page is crossed when the high byte changes (R60). -/
def Resolved.indexed (base i : Addr) : Resolved := ⟨.address (base + i), differentPage (base + i) base⟩

/-- The resolver, one arm for each rule R55 to R67. For Relative the operand is the branch target and `pageCrossed` is the
page test of R66 against `PCnext` (log 8). The only bus calls are the pointer reads of Indirect, IndirectX and
IndirectY. -/
def resolve : Operand → State.On M → Resolved × State.On M
  | .implied, s => (⟨.none, false⟩, s)
  | .accumulator, s => (⟨.none, false⟩, s)
  | .immediate b, s => (⟨.value b, false⟩, s)
  | .zeroPage b, s => (.at (zext16 b), s)
  | .zeroPageX b, s => (.at (zext16 (b + s.X)), s)
  | .zeroPageY b, s => (.at (zext16 (b + s.Y)), s)
  | .relative d, s => (.indexed s.PC (sext16 d), s)
  | .indirectX b, s =>
    let ptr := s.read16ZP (b + s.X)
    (.at ptr.1, ptr.2)
  | .indirectY b, s =>
    let base := s.read16ZP b
    (.indexed base.1 (zext16 s.Y), base.2)
  | .absolute w, s => (.at w, s)
  | .absoluteX w, s => (.indexed w (zext16 s.X), s)
  | .absoluteY w, s => (.indexed w (zext16 s.Y), s)
  | .indirect w, s =>
    let ptr := s.read16SamePage w
    (.at ptr.1, ptr.2)

/-- The `ea` of R55 to R66. The modes without an address give 0x0000, which no instruction uses (log 11). -/
def EffectiveOperand.ea : EffectiveOperand → Addr
  | .address a => a
  | .value _ => 0
  | .none => 0

/-- The effective address of an operand in a state. -/
def effectiveAddress (o : Operand) (s : State.On M) : Addr := (resolve o s).1.operand.ea

/-- `Operand()` of R72: the immediate byte with no bus call, or one bus read at `ea`. With no operand it is the accumulator
(R65); no Implied instruction calls it. -/
def readOperand : EffectiveOperand → State.On M → Byte × State.On M
  | .value v, s => (v, s)
  | .address a, s => s.busRead a
  | .none, s => (s.A, s)

/-- The write of R72 and R134: one bus write at `ea`, or the accumulator with no bus call. No instruction writes an
immediate operand. -/
def writeOperand : EffectiveOperand → Byte → State.On M → State.On M
  | .address a, v, s => s.busWrite a v
  | .none, v, s => s.setA v
  | .value _, _, s => s

end Sys2Proof.Machine
end

