-- ==== Sys2Proof/Machine/Forms.lean ====
section
/-! DEFINITION. The shapes the instructions share: the Resolve, Dispatch and Retire stages of the step
(spec/30_encoding.md R54, R68, R72) for an instruction that reads its operand, stores, reads and writes back (R134), works
on registers only, jumps, branches (R148), halts (R197) or is refused (R212). A form runs when `PC` holds `PCnext`. -/

namespace Sys2Proof.Machine

open Sys2Proof

variable {β : Type} {M : Platform β}

/-- Retire: the step returns `Ok(d.base_cycles + penalty)` as a u32 (R68), `d` being the row of `opcode`. -/
def retire (opcode : Byte) (penalty : Nat) (s : State.On M) : ResultOn M :=
  .next (s.setCycles (some (BitVec.ofNat 32 ((lookup opcode).baseCycles + penalty))))

/-- The page penalty of R68: one cycle for a row with `+p` when the resolver crossed a page. -/
def pagePenalty (opcode : Byte) (crossed : Bool) : Nat := if (lookup opcode).pagePenalty && crossed then 1 else 0

/-- The branch penalty of R148. -/
def branchPenalty (taken crossed : Bool) : Nat := if taken then (if crossed then 2 else 1) else 0

/-- An instruction that reads its operand once and then works on registers and flags. -/
def readForm (opcode : Byte) (o : Operand) (f : Byte → State.On M → State.On M) (s : State.On M) : ResultOn M :=
  let r := resolve o s
  let m := readOperand r.1.operand r.2
  retire opcode (pagePenalty opcode r.1.pageCrossed) (f m.1 m.2)

/-- An instruction that writes a byte at its operand and makes no read of the target (R83). -/
def storeForm (opcode : Byte) (o : Operand) (v : State.On M → Byte) (s : State.On M) : ResultOn M :=
  let r := resolve o s
  retire opcode (pagePenalty opcode r.1.pageCrossed) (writeOperand r.1.operand (v s) r.2)

/-- `RMW(f)` of R134, then `g` on the byte written. -/
def rmwForm (opcode : Byte) (o : Operand) (f : Byte → Status → Byte × Status) (g : Byte → State.On M → State.On M)
    (s : State.On M) : ResultOn M :=
  let r := resolve o s
  let m := readOperand r.1.operand r.2
  let q := f m.1 m.2.P
  retire opcode (pagePenalty opcode r.1.pageCrossed) (g q.1 (writeOperand r.1.operand q.1 (m.2.setP q.2)))

/-- An instruction without an operand. -/
def impliedForm (opcode : Byte) (f : State.On M → State.On M) (s : State.On M) : ResultOn M := retire opcode 0 (f s)

/-- An instruction that uses `ea` as a jump target and makes no data access there (R72). -/
def jumpForm (opcode : Byte) (o : Operand) (f : Addr → State.On M → State.On M) (s : State.On M) : ResultOn M :=
  let r := resolve o s
  retire opcode (pagePenalty opcode r.1.pageCrossed) (f r.1.operand.ea r.2)

/-- `Branch(cond)` of R148, with displacement byte `d`. -/
def branchForm (opcode : Byte) (d : Byte) (cond : Status → Bool) (s : State.On M) : ResultOn M :=
  let r := resolve (.relative d) s
  retire opcode (branchPenalty (cond s.P) r.1.pageCrossed) (if cond s.P then r.2.setPC r.1.operand.ea else r.2)

/-- `halted <- 1; raise IllegalOpcodeHalt` of R197 and R211: `PC` is already one past the opcode, no cycle count is returned,
nothing else changes (log 2). -/
def haltForm (s : State.On M) : ResultOn M := .next ((s.setHalted true).setCycles none)

/-- `raise UnimplementedBehavior(opcode, PC0)` of R212. Only the opcode has been fetched (R44), so `PC0` is `PC - 1`. -/
def unimplementedForm (opcode : Byte) (s : State.On M) : ResultOn M := .refused (.unimplementedBehavior opcode (s.PC - 1))

end Sys2Proof.Machine
end

