-- ==== Sys2Proof/Machine/ArithmeticLogic.lean ====
section
/-! DEFINITION. Arithmetic, logic, compare, bit test, increment and decrement (spec/42_arithmetic_logic.md
R110 to R124). -/

namespace Sys2Proof.Machine

open Sys2Proof

variable {β : Type} {M : Platform β}

/-! ### What the instructions do to the registers and flags -/

/-- `AddCore(~m)` (R111). -/
def subtractCore (m : Byte) (s : State.On M) : State.On M := s.addCore (~~~m)

/-- `A <- A & m; SetNZ(A)` (R112). -/
def andA (m : Byte) (s : State.On M) : State.On M := (s.setA (s.A &&& m)).setNZ (s.A &&& m)

/-- `A <- A | m; SetNZ(A)` (R113). -/
def oraA (m : Byte) (s : State.On M) : State.On M := (s.setA (s.A ||| m)).setNZ (s.A ||| m)

/-- `A <- A ^ m; SetNZ(A)` (R114). -/
def eorA (m : Byte) (s : State.On M) : State.On M := (s.setA (s.A ^^^ m)).setNZ (s.A ^^^ m)

/-- `Compare(A, m)` (R115). -/
def compareA (m : Byte) (s : State.On M) : State.On M := s.compare s.A m

/-- `Compare(X, m)` (R116). -/
def compareX (m : Byte) (s : State.On M) : State.On M := s.compare s.X m

/-- `Compare(Y, m)` (R117). -/
def compareY (m : Byte) (s : State.On M) : State.On M := s.compare s.Y m

/-- `P.Z <- ((A & m) = 0); P.N <- m[7]; P.V <- m[6]` (R118). -/
def bitTest (m : Byte) (s : State.On M) : State.On M :=
  s.setP { s.P with Z := s.A &&& m == 0, N := m.getLsbD 7, V := m.getLsbD 6 }

/-- `X <- X +8 1; SetNZ(X)` (R121). -/
def incrementX (s : State.On M) : State.On M := (s.setX (s.X + 1)).setNZ (s.X + 1)

/-- `Y <- Y +8 1; SetNZ(Y)` (R122). -/
def incrementY (s : State.On M) : State.On M := (s.setY (s.Y + 1)).setNZ (s.Y + 1)

/-- `X <- X -8 1; SetNZ(X)` (R123). -/
def decrementX (s : State.On M) : State.On M := (s.setX (s.X - 1)).setNZ (s.X - 1)

/-- `Y <- Y -8 1; SetNZ(Y)` (R124). -/
def decrementY (s : State.On M) : State.On M := (s.setY (s.Y - 1)).setNZ (s.Y - 1)

/-! ### The instructions, one definition for each constructor -/

/-- R110: `ADC ($nn,X)`. -/
def execAdcIzx (b : Byte) (s : State) : Result := readForm 0x61 (.indirectX b) State.On.addCore s

/-- R110: `ADC $nn`. -/
def execAdcZp (b : Byte) (s : State) : Result := readForm 0x65 (.zeroPage b) State.On.addCore s

/-- R110: `ADC #$nn`. -/
def execAdcImm (b : Byte) (s : State) : Result := readForm 0x69 (.immediate b) State.On.addCore s

/-- R110: `ADC $nnnn`. -/
def execAdcAbs (w : Addr) (s : State) : Result := readForm 0x6D (.absolute w) State.On.addCore s

/-- R110: `ADC ($nn),Y`. -/
def execAdcIzy (b : Byte) (s : State) : Result := readForm 0x71 (.indirectY b) State.On.addCore s

/-- R110: `ADC $nn,X`. -/
def execAdcZpx (b : Byte) (s : State) : Result := readForm 0x75 (.zeroPageX b) State.On.addCore s

/-- R110: `ADC $nnnn,Y`. -/
def execAdcAby (w : Addr) (s : State) : Result := readForm 0x79 (.absoluteY w) State.On.addCore s

/-- R110: `ADC $nnnn,X`. -/
def execAdcAbx (w : Addr) (s : State) : Result := readForm 0x7D (.absoluteX w) State.On.addCore s

/-- R111: `SBC ($nn,X)`. -/
def execSbcIzx (b : Byte) (s : State) : Result := readForm 0xE1 (.indirectX b) subtractCore s

/-- R111: `SBC $nn`. -/
def execSbcZp (b : Byte) (s : State) : Result := readForm 0xE5 (.zeroPage b) subtractCore s

/-- R111: `SBC #$nn`. -/
def execSbcImm (b : Byte) (s : State) : Result := readForm 0xE9 (.immediate b) subtractCore s

/-- R111: `SBC $nnnn`. -/
def execSbcAbs (w : Addr) (s : State) : Result := readForm 0xED (.absolute w) subtractCore s

/-- R111: `SBC ($nn),Y`. -/
def execSbcIzy (b : Byte) (s : State) : Result := readForm 0xF1 (.indirectY b) subtractCore s

/-- R111: `SBC $nn,X`. -/
def execSbcZpx (b : Byte) (s : State) : Result := readForm 0xF5 (.zeroPageX b) subtractCore s

/-- R111: `SBC $nnnn,Y`. -/
def execSbcAby (w : Addr) (s : State) : Result := readForm 0xF9 (.absoluteY w) subtractCore s

/-- R111: `SBC $nnnn,X`. -/
def execSbcAbx (w : Addr) (s : State) : Result := readForm 0xFD (.absoluteX w) subtractCore s

/-- R112: `AND ($nn,X)`. -/
def execAndIzx (b : Byte) (s : State) : Result := readForm 0x21 (.indirectX b) andA s

/-- R112: `AND $nn`. -/
def execAndZp (b : Byte) (s : State) : Result := readForm 0x25 (.zeroPage b) andA s

/-- R112: `AND #$nn`. -/
def execAndImm (b : Byte) (s : State) : Result := readForm 0x29 (.immediate b) andA s

/-- R112: `AND $nnnn`. -/
def execAndAbs (w : Addr) (s : State) : Result := readForm 0x2D (.absolute w) andA s

/-- R112: `AND ($nn),Y`. -/
def execAndIzy (b : Byte) (s : State) : Result := readForm 0x31 (.indirectY b) andA s

/-- R112: `AND $nn,X`. -/
def execAndZpx (b : Byte) (s : State) : Result := readForm 0x35 (.zeroPageX b) andA s

/-- R112: `AND $nnnn,Y`. -/
def execAndAby (w : Addr) (s : State) : Result := readForm 0x39 (.absoluteY w) andA s

/-- R112: `AND $nnnn,X`. -/
def execAndAbx (w : Addr) (s : State) : Result := readForm 0x3D (.absoluteX w) andA s

/-- R113: `ORA ($nn,X)`. -/
def execOraIzx (b : Byte) (s : State) : Result := readForm 0x01 (.indirectX b) oraA s

/-- R113: `ORA $nn`. -/
def execOraZp (b : Byte) (s : State) : Result := readForm 0x05 (.zeroPage b) oraA s

/-- R113: `ORA #$nn`. -/
def execOraImm (b : Byte) (s : State) : Result := readForm 0x09 (.immediate b) oraA s

/-- R113: `ORA $nnnn`. -/
def execOraAbs (w : Addr) (s : State) : Result := readForm 0x0D (.absolute w) oraA s

/-- R113: `ORA ($nn),Y`. -/
def execOraIzy (b : Byte) (s : State) : Result := readForm 0x11 (.indirectY b) oraA s

/-- R113: `ORA $nn,X`. -/
def execOraZpx (b : Byte) (s : State) : Result := readForm 0x15 (.zeroPageX b) oraA s

/-- R113: `ORA $nnnn,Y`. -/
def execOraAby (w : Addr) (s : State) : Result := readForm 0x19 (.absoluteY w) oraA s

/-- R113: `ORA $nnnn,X`. -/
def execOraAbx (w : Addr) (s : State) : Result := readForm 0x1D (.absoluteX w) oraA s

/-- R114: `EOR ($nn,X)`. -/
def execEorIzx (b : Byte) (s : State) : Result := readForm 0x41 (.indirectX b) eorA s

/-- R114: `EOR $nn`. -/
def execEorZp (b : Byte) (s : State) : Result := readForm 0x45 (.zeroPage b) eorA s

/-- R114: `EOR #$nn`. -/
def execEorImm (b : Byte) (s : State) : Result := readForm 0x49 (.immediate b) eorA s

/-- R114: `EOR $nnnn`. -/
def execEorAbs (w : Addr) (s : State) : Result := readForm 0x4D (.absolute w) eorA s

/-- R114: `EOR ($nn),Y`. -/
def execEorIzy (b : Byte) (s : State) : Result := readForm 0x51 (.indirectY b) eorA s

/-- R114: `EOR $nn,X`. -/
def execEorZpx (b : Byte) (s : State) : Result := readForm 0x55 (.zeroPageX b) eorA s

/-- R114: `EOR $nnnn,Y`. -/
def execEorAby (w : Addr) (s : State) : Result := readForm 0x59 (.absoluteY w) eorA s

/-- R114: `EOR $nnnn,X`. -/
def execEorAbx (w : Addr) (s : State) : Result := readForm 0x5D (.absoluteX w) eorA s

/-- R115: `CMP ($nn,X)`. -/
def execCmpIzx (b : Byte) (s : State) : Result := readForm 0xC1 (.indirectX b) compareA s

/-- R115: `CMP $nn`. -/
def execCmpZp (b : Byte) (s : State) : Result := readForm 0xC5 (.zeroPage b) compareA s

/-- R115: `CMP #$nn`. -/
def execCmpImm (b : Byte) (s : State) : Result := readForm 0xC9 (.immediate b) compareA s

/-- R115: `CMP $nnnn`. -/
def execCmpAbs (w : Addr) (s : State) : Result := readForm 0xCD (.absolute w) compareA s

/-- R115: `CMP ($nn),Y`. -/
def execCmpIzy (b : Byte) (s : State) : Result := readForm 0xD1 (.indirectY b) compareA s

/-- R115: `CMP $nn,X`. -/
def execCmpZpx (b : Byte) (s : State) : Result := readForm 0xD5 (.zeroPageX b) compareA s

/-- R115: `CMP $nnnn,Y`. -/
def execCmpAby (w : Addr) (s : State) : Result := readForm 0xD9 (.absoluteY w) compareA s

/-- R115: `CMP $nnnn,X`. -/
def execCmpAbx (w : Addr) (s : State) : Result := readForm 0xDD (.absoluteX w) compareA s

/-- R116: `CPX #$nn`. -/
def execCpxImm (b : Byte) (s : State) : Result := readForm 0xE0 (.immediate b) compareX s

/-- R116: `CPX $nn`. -/
def execCpxZp (b : Byte) (s : State) : Result := readForm 0xE4 (.zeroPage b) compareX s

/-- R116: `CPX $nnnn`. -/
def execCpxAbs (w : Addr) (s : State) : Result := readForm 0xEC (.absolute w) compareX s

/-- R117: `CPY #$nn`. -/
def execCpyImm (b : Byte) (s : State) : Result := readForm 0xC0 (.immediate b) compareY s

/-- R117: `CPY $nn`. -/
def execCpyZp (b : Byte) (s : State) : Result := readForm 0xC4 (.zeroPage b) compareY s

/-- R117: `CPY $nnnn`. -/
def execCpyAbs (w : Addr) (s : State) : Result := readForm 0xCC (.absolute w) compareY s

/-- R118: `BIT $nn`. -/
def execBitZp (b : Byte) (s : State) : Result := readForm 0x24 (.zeroPage b) bitTest s

/-- R118: `BIT $nnnn`. -/
def execBitAbs (w : Addr) (s : State) : Result := readForm 0x2C (.absolute w) bitTest s

/-- R119: `INC $nn`. -/
def execIncZp (b : Byte) (s : State) : Result := rmwForm 0xE6 (.zeroPage b) increment State.On.setNZ s

/-- R119: `INC $nnnn`. -/
def execIncAbs (w : Addr) (s : State) : Result := rmwForm 0xEE (.absolute w) increment State.On.setNZ s

/-- R119: `INC $nn,X`. -/
def execIncZpx (b : Byte) (s : State) : Result := rmwForm 0xF6 (.zeroPageX b) increment State.On.setNZ s

/-- R119: `INC $nnnn,X`. -/
def execIncAbx (w : Addr) (s : State) : Result := rmwForm 0xFE (.absoluteX w) increment State.On.setNZ s

/-- R120: `DEC $nn`. -/
def execDecZp (b : Byte) (s : State) : Result := rmwForm 0xC6 (.zeroPage b) decrement State.On.setNZ s

/-- R120: `DEC $nnnn`. -/
def execDecAbs (w : Addr) (s : State) : Result := rmwForm 0xCE (.absolute w) decrement State.On.setNZ s

/-- R120: `DEC $nn,X`. -/
def execDecZpx (b : Byte) (s : State) : Result := rmwForm 0xD6 (.zeroPageX b) decrement State.On.setNZ s

/-- R120: `DEC $nnnn,X`. -/
def execDecAbx (w : Addr) (s : State) : Result := rmwForm 0xDE (.absoluteX w) decrement State.On.setNZ s

/-- R121: `INX`. -/
def execInx (s : State) : Result := impliedForm 0xE8 incrementX s

/-- R122: `INY`. -/
def execIny (s : State) : Result := impliedForm 0xC8 incrementY s

/-- R123: `DEX`. -/
def execDex (s : State) : Result := impliedForm 0xCA decrementX s

/-- R124: `DEY`. -/
def execDey (s : State) : Result := impliedForm 0x88 decrementY s

end Sys2Proof.Machine
end

