-- ==== Sys2Proof/Machine/ControlFlow.lean ====
section
/-! DEFINITION. Jumps, subroutine call and return, branches, BRK and RTI (spec/44_control_flow.md R145 to R158). -/

namespace Sys2Proof.Machine

open Sys2Proof

variable {β : Type} {M : Platform β}

/-! ### What the instructions do to the registers and flags -/

/-- JSR (R146): push `PCnext -16 1`, the address of its own third byte, then `PC <- ea`. -/
def callTo (target : Addr) (s : State.On M) : State.On M := (s.push16 (s.PC - 1)).setPC target

/-- RTS (R147): `PC <- {h, l} +16 1`. -/
def returnFromCall (s : State.On M) : State.On M :=
  let w := s.pull16
  w.2.setPC (w.1 + 1)

/-- BRK (R157): the trap, resuming at `PCnext +16 1`, so that one padding byte is skipped. -/
def breakTrap (s : State.On M) : State.On M := s.takeTrap (s.PC + 1)

/-! ### The instructions, one definition for each constructor -/

/-- R145: `JMP $nnnn`. -/
def execJmpAbs (w : Addr) (s : State) : Result := jumpForm 0x4C (.absolute w) State.On.setPC s

/-- R145: `JMP ($nnnn)`. -/
def execJmpInd (w : Addr) (s : State) : Result := jumpForm 0x6C (.indirect w) State.On.setPC s

/-- R146: `JSR $nnnn`. -/
def execJsr (w : Addr) (s : State) : Result := jumpForm 0x20 (.absolute w) callTo s

/-- R147: `RTS`. -/
def execRts (s : State) : Result := impliedForm 0x60 returnFromCall s

/-- R149: `BCC label`. -/
def execBcc (d : Byte) (s : State) : Result := branchForm 0x90 d (fun p => !p.C) s

/-- R150: `BCS label`. -/
def execBcs (d : Byte) (s : State) : Result := branchForm 0xB0 d (fun p => p.C) s

/-- R151: `BEQ label`. -/
def execBeq (d : Byte) (s : State) : Result := branchForm 0xF0 d (fun p => p.Z) s

/-- R152: `BNE label`. -/
def execBne (d : Byte) (s : State) : Result := branchForm 0xD0 d (fun p => !p.Z) s

/-- R153: `BMI label`. -/
def execBmi (d : Byte) (s : State) : Result := branchForm 0x30 d (fun p => p.N) s

/-- R154: `BPL label`. -/
def execBpl (d : Byte) (s : State) : Result := branchForm 0x10 d (fun p => !p.N) s

/-- R155: `BVC label`. -/
def execBvc (d : Byte) (s : State) : Result := branchForm 0x50 d (fun p => !p.V) s

/-- R156: `BVS label`. -/
def execBvs (d : Byte) (s : State) : Result := branchForm 0x70 d (fun p => p.V) s

/-- R157: `BRK`. -/
def execBrk (s : State) : Result := impliedForm 0x00 breakTrap s

/-- R158: `RTI`. -/
def execRti (s : State) : Result := impliedForm 0x40 State.On.returnFromTrap s

end Sys2Proof.Machine
end

