-- ==== Sys2Proof/Machine/FlagsNop.lean ====
section
/-! DEFINITION. Flag instructions and the official NOP (spec/45_flags_nop.md R170 to R177). -/

namespace Sys2Proof.Machine

open Sys2Proof

variable {β : Type} {M : Platform β}

/-! ### What the instructions do to the registers and flags -/

/-- `P.C <- 0` (R170). -/
def clearC (s : State.On M) : State.On M := s.setP { s.P with C := false }

/-- `P.C <- 1` (R171). -/
def setC (s : State.On M) : State.On M := s.setP { s.P with C := true }

/-- `P.I <- 0` (R172). -/
def clearI (s : State.On M) : State.On M := s.setP { s.P with I := false }

/-- `P.I <- 1` (R173). -/
def setI (s : State.On M) : State.On M := s.setP { s.P with I := true }

/-- `P.D <- 0` (R174). -/
def clearD (s : State.On M) : State.On M := s.setP { s.P with D := false }

/-- `P.D <- 1` (R175). -/
def setD (s : State.On M) : State.On M := s.setP { s.P with D := true }

/-- `P.V <- 0` (R176). -/
def clearV (s : State.On M) : State.On M := s.setP { s.P with V := false }

/-- Nothing (R177, R181). -/
def noOperation (s : State.On M) : State.On M := s

/-! ### The instructions, one definition for each constructor -/

/-- R170: `CLC`. -/
def execClc (s : State) : Result := impliedForm 0x18 clearC s

/-- R171: `SEC`. -/
def execSec (s : State) : Result := impliedForm 0x38 setC s

/-- R172: `CLI`. -/
def execCli (s : State) : Result := impliedForm 0x58 clearI s

/-- R173: `SEI`. -/
def execSei (s : State) : Result := impliedForm 0x78 setI s

/-- R174: `CLD`. -/
def execCld (s : State) : Result := impliedForm 0xD8 clearD s

/-- R175: `SED`. -/
def execSed (s : State) : Result := impliedForm 0xF8 setD s

/-- R176: `CLV`. -/
def execClv (s : State) : Result := impliedForm 0xB8 clearV s

/-- R177: `NOP`. -/
def execNop (s : State) : Result := impliedForm 0xEA noOperation s

end Sys2Proof.Machine
end

