-- ==== Sys2Proof/Machine/LoadStoreTransfer.lean ====
section
/-! DEFINITION. Loads, stores and register transfers (spec/40_load_store_transfer.md R80 to R91). -/

namespace Sys2Proof.Machine

open Sys2Proof

variable {β : Type} {M : Platform β}

/-! ### What the instructions do to the registers and flags -/

/-- `A <- m; SetNZ(A)` (R80). -/
def loadA (m : Byte) (s : State.On M) : State.On M := (s.setA m).setNZ m

/-- `X <- m; SetNZ(X)` (R81). -/
def loadX (m : Byte) (s : State.On M) : State.On M := (s.setX m).setNZ m

/-- `Y <- m; SetNZ(Y)` (R82). -/
def loadY (m : Byte) (s : State.On M) : State.On M := (s.setY m).setNZ m

/-- `X <- A; SetNZ(X)` (R86). -/
def transferAX (s : State.On M) : State.On M := (s.setX s.A).setNZ s.A

/-- `Y <- A; SetNZ(Y)` (R87). -/
def transferAY (s : State.On M) : State.On M := (s.setY s.A).setNZ s.A

/-- `A <- X; SetNZ(A)` (R88). -/
def transferXA (s : State.On M) : State.On M := (s.setA s.X).setNZ s.X

/-- `A <- Y; SetNZ(A)` (R89). -/
def transferYA (s : State.On M) : State.On M := (s.setA s.Y).setNZ s.Y

/-- `X <- S; SetNZ(X)` (R90). -/
def transferSX (s : State.On M) : State.On M := (s.setX s.S).setNZ s.S

/-- `S <- X`, no flag (R91). -/
def transferXS (s : State.On M) : State.On M := s.setS s.X

/-! ### The instructions, one definition for each constructor -/

/-- R80: `LDA ($nn,X)`. -/
def execLdaIzx (b : Byte) (s : State) : Result := readForm 0xA1 (.indirectX b) loadA s

/-- R80: `LDA $nn`. -/
def execLdaZp (b : Byte) (s : State) : Result := readForm 0xA5 (.zeroPage b) loadA s

/-- R80: `LDA #$nn`. -/
def execLdaImm (b : Byte) (s : State) : Result := readForm 0xA9 (.immediate b) loadA s

/-- R80: `LDA $nnnn`. -/
def execLdaAbs (w : Addr) (s : State) : Result := readForm 0xAD (.absolute w) loadA s

/-- R80: `LDA ($nn),Y`. -/
def execLdaIzy (b : Byte) (s : State) : Result := readForm 0xB1 (.indirectY b) loadA s

/-- R80: `LDA $nn,X`. -/
def execLdaZpx (b : Byte) (s : State) : Result := readForm 0xB5 (.zeroPageX b) loadA s

/-- R80: `LDA $nnnn,Y`. -/
def execLdaAby (w : Addr) (s : State) : Result := readForm 0xB9 (.absoluteY w) loadA s

/-- R80: `LDA $nnnn,X`. -/
def execLdaAbx (w : Addr) (s : State) : Result := readForm 0xBD (.absoluteX w) loadA s

/-- R81: `LDX #$nn`. -/
def execLdxImm (b : Byte) (s : State) : Result := readForm 0xA2 (.immediate b) loadX s

/-- R81: `LDX $nn`. -/
def execLdxZp (b : Byte) (s : State) : Result := readForm 0xA6 (.zeroPage b) loadX s

/-- R81: `LDX $nnnn`. -/
def execLdxAbs (w : Addr) (s : State) : Result := readForm 0xAE (.absolute w) loadX s

/-- R81: `LDX $nn,Y`. -/
def execLdxZpy (b : Byte) (s : State) : Result := readForm 0xB6 (.zeroPageY b) loadX s

/-- R81: `LDX $nnnn,Y`. -/
def execLdxAby (w : Addr) (s : State) : Result := readForm 0xBE (.absoluteY w) loadX s

/-- R82: `LDY #$nn`. -/
def execLdyImm (b : Byte) (s : State) : Result := readForm 0xA0 (.immediate b) loadY s

/-- R82: `LDY $nn`. -/
def execLdyZp (b : Byte) (s : State) : Result := readForm 0xA4 (.zeroPage b) loadY s

/-- R82: `LDY $nnnn`. -/
def execLdyAbs (w : Addr) (s : State) : Result := readForm 0xAC (.absolute w) loadY s

/-- R82: `LDY $nn,X`. -/
def execLdyZpx (b : Byte) (s : State) : Result := readForm 0xB4 (.zeroPageX b) loadY s

/-- R82: `LDY $nnnn,X`. -/
def execLdyAbx (w : Addr) (s : State) : Result := readForm 0xBC (.absoluteX w) loadY s

/-- R83: `STA ($nn,X)`. -/
def execStaIzx (b : Byte) (s : State) : Result := storeForm 0x81 (.indirectX b) State.On.A s

/-- R83: `STA $nn`. -/
def execStaZp (b : Byte) (s : State) : Result := storeForm 0x85 (.zeroPage b) State.On.A s

/-- R83: `STA $nnnn`. -/
def execStaAbs (w : Addr) (s : State) : Result := storeForm 0x8D (.absolute w) State.On.A s

/-- R83: `STA ($nn),Y`. -/
def execStaIzy (b : Byte) (s : State) : Result := storeForm 0x91 (.indirectY b) State.On.A s

/-- R83: `STA $nn,X`. -/
def execStaZpx (b : Byte) (s : State) : Result := storeForm 0x95 (.zeroPageX b) State.On.A s

/-- R83: `STA $nnnn,Y`. -/
def execStaAby (w : Addr) (s : State) : Result := storeForm 0x99 (.absoluteY w) State.On.A s

/-- R83: `STA $nnnn,X`. -/
def execStaAbx (w : Addr) (s : State) : Result := storeForm 0x9D (.absoluteX w) State.On.A s

/-- R84: `STX $nn`. -/
def execStxZp (b : Byte) (s : State) : Result := storeForm 0x86 (.zeroPage b) State.On.X s

/-- R84: `STX $nnnn`. -/
def execStxAbs (w : Addr) (s : State) : Result := storeForm 0x8E (.absolute w) State.On.X s

/-- R84: `STX $nn,Y`. -/
def execStxZpy (b : Byte) (s : State) : Result := storeForm 0x96 (.zeroPageY b) State.On.X s

/-- R85: `STY $nn`. -/
def execStyZp (b : Byte) (s : State) : Result := storeForm 0x84 (.zeroPage b) State.On.Y s

/-- R85: `STY $nnnn`. -/
def execStyAbs (w : Addr) (s : State) : Result := storeForm 0x8C (.absolute w) State.On.Y s

/-- R85: `STY $nn,X`. -/
def execStyZpx (b : Byte) (s : State) : Result := storeForm 0x94 (.zeroPageX b) State.On.Y s

/-- R86: `TAX`. -/
def execTax (s : State) : Result := impliedForm 0xAA transferAX s

/-- R87: `TAY`. -/
def execTay (s : State) : Result := impliedForm 0xA8 transferAY s

/-- R88: `TXA`. -/
def execTxa (s : State) : Result := impliedForm 0x8A transferXA s

/-- R89: `TYA`. -/
def execTya (s : State) : Result := impliedForm 0x98 transferYA s

/-- R90: `TSX`. -/
def execTsx (s : State) : Result := impliedForm 0xBA transferSX s

/-- R91: `TXS`. -/
def execTxs (s : State) : Result := impliedForm 0x9A transferXS s

end Sys2Proof.Machine
end

