-- ==== Sys2Proof/Machine/ShiftRotate.lean ====
section
/-! DEFINITION. Shifts and rotates (spec/43_shift_rotate.md R134 to R138). -/

namespace Sys2Proof.Machine

open Sys2Proof

/-! ### The instructions, one definition for each constructor -/

/-- R135: `ASL $nn`. -/
def execAslZp (b : Byte) (s : State) : Result := rmwForm 0x06 (.zeroPage b) shiftLeft State.On.setNZ s

/-- R135: `ASL A`. -/
def execAslAcc (s : State) : Result := rmwForm 0x0A .accumulator shiftLeft State.On.setNZ s

/-- R135: `ASL $nnnn`. -/
def execAslAbs (w : Addr) (s : State) : Result := rmwForm 0x0E (.absolute w) shiftLeft State.On.setNZ s

/-- R135: `ASL $nn,X`. -/
def execAslZpx (b : Byte) (s : State) : Result := rmwForm 0x16 (.zeroPageX b) shiftLeft State.On.setNZ s

/-- R135: `ASL $nnnn,X`. -/
def execAslAbx (w : Addr) (s : State) : Result := rmwForm 0x1E (.absoluteX w) shiftLeft State.On.setNZ s

/-- R136: `LSR $nn`. -/
def execLsrZp (b : Byte) (s : State) : Result := rmwForm 0x46 (.zeroPage b) shiftRight State.On.setNZ s

/-- R136: `LSR A`. -/
def execLsrAcc (s : State) : Result := rmwForm 0x4A .accumulator shiftRight State.On.setNZ s

/-- R136: `LSR $nnnn`. -/
def execLsrAbs (w : Addr) (s : State) : Result := rmwForm 0x4E (.absolute w) shiftRight State.On.setNZ s

/-- R136: `LSR $nn,X`. -/
def execLsrZpx (b : Byte) (s : State) : Result := rmwForm 0x56 (.zeroPageX b) shiftRight State.On.setNZ s

/-- R136: `LSR $nnnn,X`. -/
def execLsrAbx (w : Addr) (s : State) : Result := rmwForm 0x5E (.absoluteX w) shiftRight State.On.setNZ s

/-- R137: `ROL $nn`. -/
def execRolZp (b : Byte) (s : State) : Result := rmwForm 0x26 (.zeroPage b) rotateLeft State.On.setNZ s

/-- R137: `ROL A`. -/
def execRolAcc (s : State) : Result := rmwForm 0x2A .accumulator rotateLeft State.On.setNZ s

/-- R137: `ROL $nnnn`. -/
def execRolAbs (w : Addr) (s : State) : Result := rmwForm 0x2E (.absolute w) rotateLeft State.On.setNZ s

/-- R137: `ROL $nn,X`. -/
def execRolZpx (b : Byte) (s : State) : Result := rmwForm 0x36 (.zeroPageX b) rotateLeft State.On.setNZ s

/-- R137: `ROL $nnnn,X`. -/
def execRolAbx (w : Addr) (s : State) : Result := rmwForm 0x3E (.absoluteX w) rotateLeft State.On.setNZ s

/-- R138: `ROR $nn`. -/
def execRorZp (b : Byte) (s : State) : Result := rmwForm 0x66 (.zeroPage b) rotateRight State.On.setNZ s

/-- R138: `ROR A`. -/
def execRorAcc (s : State) : Result := rmwForm 0x6A .accumulator rotateRight State.On.setNZ s

/-- R138: `ROR $nnnn`. -/
def execRorAbs (w : Addr) (s : State) : Result := rmwForm 0x6E (.absolute w) rotateRight State.On.setNZ s

/-- R138: `ROR $nn,X`. -/
def execRorZpx (b : Byte) (s : State) : Result := rmwForm 0x76 (.zeroPageX b) rotateRight State.On.setNZ s

/-- R138: `ROR $nnnn,X`. -/
def execRorAbx (w : Addr) (s : State) : Result := rmwForm 0x7E (.absoluteX w) rotateRight State.On.setNZ s

end Sys2Proof.Machine
end

