-- ==== Sys2Proof/Machine/Stack.lean ====
section
/-! DEFINITION. Stack pushes and pulls (spec/41_stack.md R100 to R103). -/

namespace Sys2Proof.Machine

open Sys2Proof

variable {β : Type} {M : Platform β}

/-! ### What the instructions do to the registers and flags -/

/-- `Push(A)` (R100). -/
def pushA (s : State.On M) : State.On M := s.push s.A

/-- `Push(Pack())` (R101): bit 4 is the stored `P.B`. -/
def pushP (s : State.On M) : State.On M := s.push s.P.pack

/-- `A <- Pull(); SetNZ(A)` (R102). -/
def pullA (s : State.On M) : State.On M :=
  let m := s.pull
  (m.2.setA m.1).setNZ m.1

/-- `Unpack(Pull())` (R103). -/
def pullP (s : State.On M) : State.On M :=
  let m := s.pull
  m.2.setP (Status.unpack m.1)

/-! ### The instructions, one definition for each constructor -/

/-- R100: `PHA`. -/
def execPha (s : State) : Result := impliedForm 0x48 pushA s

/-- R101: `PHP`. -/
def execPhp (s : State) : Result := impliedForm 0x08 pushP s

/-- R102: `PLA`. -/
def execPla (s : State) : Result := impliedForm 0x68 pullA s

/-- R103: `PLP`. -/
def execPlp (s : State) : Result := impliedForm 0x28 pullP s

end Sys2Proof.Machine
end

