-- ==== Sys2Proof/Machine/Unofficial.lean ====
section
/-! DEFINITION. Unofficial opcodes (spec/46_unofficial.md R180 to R203): those that execute, the halt opcode JAM, and
the seven unstable ones that the spec refuses. -/

namespace Sys2Proof.Machine

open Sys2Proof

variable {β : Type} {M : Platform β}

/-! ### What the instructions do to the registers and flags -/

/-- The byte read is thrown away (R182). -/
def discardByte (_ : Byte) (s : State.On M) : State.On M := s

/-- `A <- m; X <- m; SetNZ(m)` (R183). -/
def loadAX (m : Byte) (s : State.On M) : State.On M := ((s.setA m).setX m).setNZ m

/-- `A & X`, the byte SAX stores (R184). -/
def aAndX (s : State.On M) : Byte := s.A &&& s.X

/-- ANC: `A <- A & m; SetNZ(A); P.C <- A[7]` (R192). -/
def andCopySign (m : Byte) (s : State.On M) : State.On M :=
  let t := andA m s
  t.setP { t.P with C := t.A.getLsbD 7 }

/-- ALR: `t <- A & m; P.C <- t[0]; A <- t >> 1; SetNZ(A)` (R193). -/
def andShiftRight (m : Byte) (s : State.On M) : State.On M :=
  let q := shiftRight (s.A &&& m) s.P
  ((s.setA q.1).setP q.2).setNZ q.1

/-- ARR: `t <- A & m; A <- (t >> 1) | (P.C << 7); SetNZ(A); P.C <- A[6]; P.V <- A[6] ^ A[5]` (R194). -/
def andRotateRight (m : Byte) (s : State.On M) : State.On M :=
  let r := (rotateRight (s.A &&& m) s.P).1
  let t := (s.setA r).setNZ r
  t.setP { t.P with C := r.getLsbD 6, V := r.getLsbD 6 ^^ r.getLsbD 5 }

/-- SBX: `t <- A & X; P.C <- (t >= m); X <- (t - m) mod 256; SetNZ(X)` (R195). -/
def subtractFromAX (m : Byte) (s : State.On M) : State.On M :=
  let t := s.A &&& s.X
  let u := (s.setX (t - m)).setNZ (t - m)
  u.setP { u.P with C := decide (m.toNat ≤ t.toNat) }

/-- LAS: `v <- m & S; A <- v; X <- v; S <- v; SetNZ(v)` (R196). -/
def andStackPointer (m : Byte) (s : State.On M) : State.On M :=
  let v := m &&& s.S
  (((s.setA v).setX v).setS v).setNZ v

/-! ### The instructions, one definition for each constructor -/

/-- R182: `NOP $nn`. -/
def execNopZp04 (b : Byte) (s : State) : Result := readForm 0x04 (.zeroPage b) discardByte s

/-- R182: `NOP $nnnn`. -/
def execNopAbs (w : Addr) (s : State) : Result := readForm 0x0C (.absolute w) discardByte s

/-- R182: `NOP $nn,X`. -/
def execNopZpx14 (b : Byte) (s : State) : Result := readForm 0x14 (.zeroPageX b) discardByte s

/-- R181: `NOP`. -/
def execNop1A (s : State) : Result := impliedForm 0x1A noOperation s

/-- R182: `NOP $nnnn,X`. -/
def execNopAbx1C (w : Addr) (s : State) : Result := readForm 0x1C (.absoluteX w) discardByte s

/-- R182: `NOP $nn,X`. -/
def execNopZpx34 (b : Byte) (s : State) : Result := readForm 0x34 (.zeroPageX b) discardByte s

/-- R181: `NOP`. -/
def execNop3A (s : State) : Result := impliedForm 0x3A noOperation s

/-- R182: `NOP $nnnn,X`. -/
def execNopAbx3C (w : Addr) (s : State) : Result := readForm 0x3C (.absoluteX w) discardByte s

/-- R182: `NOP $nn`. -/
def execNopZp44 (b : Byte) (s : State) : Result := readForm 0x44 (.zeroPage b) discardByte s

/-- R182: `NOP $nn,X`. -/
def execNopZpx54 (b : Byte) (s : State) : Result := readForm 0x54 (.zeroPageX b) discardByte s

/-- R181: `NOP`. -/
def execNop5A (s : State) : Result := impliedForm 0x5A noOperation s

/-- R182: `NOP $nnnn,X`. -/
def execNopAbx5C (w : Addr) (s : State) : Result := readForm 0x5C (.absoluteX w) discardByte s

/-- R182: `NOP $nn`. -/
def execNopZp64 (b : Byte) (s : State) : Result := readForm 0x64 (.zeroPage b) discardByte s

/-- R182: `NOP $nn,X`. -/
def execNopZpx74 (b : Byte) (s : State) : Result := readForm 0x74 (.zeroPageX b) discardByte s

/-- R181: `NOP`. -/
def execNop7A (s : State) : Result := impliedForm 0x7A noOperation s

/-- R182: `NOP $nnnn,X`. -/
def execNopAbx7C (w : Addr) (s : State) : Result := readForm 0x7C (.absoluteX w) discardByte s

/-- R182: `NOP #$nn`. -/
def execNopImm80 (b : Byte) (s : State) : Result := readForm 0x80 (.immediate b) discardByte s

/-- R182: `NOP #$nn`. -/
def execNopImm82 (b : Byte) (s : State) : Result := readForm 0x82 (.immediate b) discardByte s

/-- R182: `NOP #$nn`. -/
def execNopImm89 (b : Byte) (s : State) : Result := readForm 0x89 (.immediate b) discardByte s

/-- R182: `NOP #$nn`. -/
def execNopImmC2 (b : Byte) (s : State) : Result := readForm 0xC2 (.immediate b) discardByte s

/-- R182: `NOP $nn,X`. -/
def execNopZpxD4 (b : Byte) (s : State) : Result := readForm 0xD4 (.zeroPageX b) discardByte s

/-- R181: `NOP`. -/
def execNopDA (s : State) : Result := impliedForm 0xDA noOperation s

/-- R182: `NOP $nnnn,X`. -/
def execNopAbxDC (w : Addr) (s : State) : Result := readForm 0xDC (.absoluteX w) discardByte s

/-- R182: `NOP #$nn`. -/
def execNopImmE2 (b : Byte) (s : State) : Result := readForm 0xE2 (.immediate b) discardByte s

/-- R182: `NOP $nn,X`. -/
def execNopZpxF4 (b : Byte) (s : State) : Result := readForm 0xF4 (.zeroPageX b) discardByte s

/-- R181: `NOP`. -/
def execNopFA (s : State) : Result := impliedForm 0xFA noOperation s

/-- R182: `NOP $nnnn,X`. -/
def execNopAbxFC (w : Addr) (s : State) : Result := readForm 0xFC (.absoluteX w) discardByte s

/-- R183: `LAX ($nn,X)`. -/
def execLaxIzx (b : Byte) (s : State) : Result := readForm 0xA3 (.indirectX b) loadAX s

/-- R183: `LAX $nn`. -/
def execLaxZp (b : Byte) (s : State) : Result := readForm 0xA7 (.zeroPage b) loadAX s

/-- R183: `LAX $nnnn`. -/
def execLaxAbs (w : Addr) (s : State) : Result := readForm 0xAF (.absolute w) loadAX s

/-- R183: `LAX ($nn),Y`. -/
def execLaxIzy (b : Byte) (s : State) : Result := readForm 0xB3 (.indirectY b) loadAX s

/-- R183: `LAX $nn,Y`. -/
def execLaxZpy (b : Byte) (s : State) : Result := readForm 0xB7 (.zeroPageY b) loadAX s

/-- R183: `LAX $nnnn,Y`. -/
def execLaxAby (w : Addr) (s : State) : Result := readForm 0xBF (.absoluteY w) loadAX s

/-- R184: `SAX ($nn,X)`. -/
def execSaxIzx (b : Byte) (s : State) : Result := storeForm 0x83 (.indirectX b) aAndX s

/-- R184: `SAX $nn`. -/
def execSaxZp (b : Byte) (s : State) : Result := storeForm 0x87 (.zeroPage b) aAndX s

/-- R184: `SAX $nnnn`. -/
def execSaxAbs (w : Addr) (s : State) : Result := storeForm 0x8F (.absolute w) aAndX s

/-- R184: `SAX $nn,Y`. -/
def execSaxZpy (b : Byte) (s : State) : Result := storeForm 0x97 (.zeroPageY b) aAndX s

/-- R185: `SBC #$nn`. -/
def execSbcImmEB (b : Byte) (s : State) : Result := readForm 0xEB (.immediate b) subtractCore s

/-- R186: `DCP ($nn,X)`. -/
def execDcpIzx (b : Byte) (s : State) : Result := rmwForm 0xC3 (.indirectX b) decrement compareA s

/-- R186: `DCP $nn`. -/
def execDcpZp (b : Byte) (s : State) : Result := rmwForm 0xC7 (.zeroPage b) decrement compareA s

/-- R186: `DCP $nnnn`. -/
def execDcpAbs (w : Addr) (s : State) : Result := rmwForm 0xCF (.absolute w) decrement compareA s

/-- R186: `DCP ($nn),Y`. -/
def execDcpIzy (b : Byte) (s : State) : Result := rmwForm 0xD3 (.indirectY b) decrement compareA s

/-- R186: `DCP $nn,X`. -/
def execDcpZpx (b : Byte) (s : State) : Result := rmwForm 0xD7 (.zeroPageX b) decrement compareA s

/-- R186: `DCP $nnnn,Y`. -/
def execDcpAby (w : Addr) (s : State) : Result := rmwForm 0xDB (.absoluteY w) decrement compareA s

/-- R186: `DCP $nnnn,X`. -/
def execDcpAbx (w : Addr) (s : State) : Result := rmwForm 0xDF (.absoluteX w) decrement compareA s

/-- R187: `ISC ($nn,X)`. -/
def execIscIzx (b : Byte) (s : State) : Result := rmwForm 0xE3 (.indirectX b) increment subtractCore s

/-- R187: `ISC $nn`. -/
def execIscZp (b : Byte) (s : State) : Result := rmwForm 0xE7 (.zeroPage b) increment subtractCore s

/-- R187: `ISC $nnnn`. -/
def execIscAbs (w : Addr) (s : State) : Result := rmwForm 0xEF (.absolute w) increment subtractCore s

/-- R187: `ISC ($nn),Y`. -/
def execIscIzy (b : Byte) (s : State) : Result := rmwForm 0xF3 (.indirectY b) increment subtractCore s

/-- R187: `ISC $nn,X`. -/
def execIscZpx (b : Byte) (s : State) : Result := rmwForm 0xF7 (.zeroPageX b) increment subtractCore s

/-- R187: `ISC $nnnn,Y`. -/
def execIscAby (w : Addr) (s : State) : Result := rmwForm 0xFB (.absoluteY w) increment subtractCore s

/-- R187: `ISC $nnnn,X`. -/
def execIscAbx (w : Addr) (s : State) : Result := rmwForm 0xFF (.absoluteX w) increment subtractCore s

/-- R188: `SLO ($nn,X)`. -/
def execSloIzx (b : Byte) (s : State) : Result := rmwForm 0x03 (.indirectX b) shiftLeft oraA s

/-- R188: `SLO $nn`. -/
def execSloZp (b : Byte) (s : State) : Result := rmwForm 0x07 (.zeroPage b) shiftLeft oraA s

/-- R188: `SLO $nnnn`. -/
def execSloAbs (w : Addr) (s : State) : Result := rmwForm 0x0F (.absolute w) shiftLeft oraA s

/-- R188: `SLO ($nn),Y`. -/
def execSloIzy (b : Byte) (s : State) : Result := rmwForm 0x13 (.indirectY b) shiftLeft oraA s

/-- R188: `SLO $nn,X`. -/
def execSloZpx (b : Byte) (s : State) : Result := rmwForm 0x17 (.zeroPageX b) shiftLeft oraA s

/-- R188: `SLO $nnnn,Y`. -/
def execSloAby (w : Addr) (s : State) : Result := rmwForm 0x1B (.absoluteY w) shiftLeft oraA s

/-- R188: `SLO $nnnn,X`. -/
def execSloAbx (w : Addr) (s : State) : Result := rmwForm 0x1F (.absoluteX w) shiftLeft oraA s

/-- R189: `RLA ($nn,X)`. -/
def execRlaIzx (b : Byte) (s : State) : Result := rmwForm 0x23 (.indirectX b) rotateLeft andA s

/-- R189: `RLA $nn`. -/
def execRlaZp (b : Byte) (s : State) : Result := rmwForm 0x27 (.zeroPage b) rotateLeft andA s

/-- R189: `RLA $nnnn`. -/
def execRlaAbs (w : Addr) (s : State) : Result := rmwForm 0x2F (.absolute w) rotateLeft andA s

/-- R189: `RLA ($nn),Y`. -/
def execRlaIzy (b : Byte) (s : State) : Result := rmwForm 0x33 (.indirectY b) rotateLeft andA s

/-- R189: `RLA $nn,X`. -/
def execRlaZpx (b : Byte) (s : State) : Result := rmwForm 0x37 (.zeroPageX b) rotateLeft andA s

/-- R189: `RLA $nnnn,Y`. -/
def execRlaAby (w : Addr) (s : State) : Result := rmwForm 0x3B (.absoluteY w) rotateLeft andA s

/-- R189: `RLA $nnnn,X`. -/
def execRlaAbx (w : Addr) (s : State) : Result := rmwForm 0x3F (.absoluteX w) rotateLeft andA s

/-- R190: `SRE ($nn,X)`. -/
def execSreIzx (b : Byte) (s : State) : Result := rmwForm 0x43 (.indirectX b) shiftRight eorA s

/-- R190: `SRE $nn`. -/
def execSreZp (b : Byte) (s : State) : Result := rmwForm 0x47 (.zeroPage b) shiftRight eorA s

/-- R190: `SRE $nnnn`. -/
def execSreAbs (w : Addr) (s : State) : Result := rmwForm 0x4F (.absolute w) shiftRight eorA s

/-- R190: `SRE ($nn),Y`. -/
def execSreIzy (b : Byte) (s : State) : Result := rmwForm 0x53 (.indirectY b) shiftRight eorA s

/-- R190: `SRE $nn,X`. -/
def execSreZpx (b : Byte) (s : State) : Result := rmwForm 0x57 (.zeroPageX b) shiftRight eorA s

/-- R190: `SRE $nnnn,Y`. -/
def execSreAby (w : Addr) (s : State) : Result := rmwForm 0x5B (.absoluteY w) shiftRight eorA s

/-- R190: `SRE $nnnn,X`. -/
def execSreAbx (w : Addr) (s : State) : Result := rmwForm 0x5F (.absoluteX w) shiftRight eorA s

/-- R191: `RRA ($nn,X)`. -/
def execRraIzx (b : Byte) (s : State) : Result := rmwForm 0x63 (.indirectX b) rotateRight State.On.addCore s

/-- R191: `RRA $nn`. -/
def execRraZp (b : Byte) (s : State) : Result := rmwForm 0x67 (.zeroPage b) rotateRight State.On.addCore s

/-- R191: `RRA $nnnn`. -/
def execRraAbs (w : Addr) (s : State) : Result := rmwForm 0x6F (.absolute w) rotateRight State.On.addCore s

/-- R191: `RRA ($nn),Y`. -/
def execRraIzy (b : Byte) (s : State) : Result := rmwForm 0x73 (.indirectY b) rotateRight State.On.addCore s

/-- R191: `RRA $nn,X`. -/
def execRraZpx (b : Byte) (s : State) : Result := rmwForm 0x77 (.zeroPageX b) rotateRight State.On.addCore s

/-- R191: `RRA $nnnn,Y`. -/
def execRraAby (w : Addr) (s : State) : Result := rmwForm 0x7B (.absoluteY w) rotateRight State.On.addCore s

/-- R191: `RRA $nnnn,X`. -/
def execRraAbx (w : Addr) (s : State) : Result := rmwForm 0x7F (.absoluteX w) rotateRight State.On.addCore s

/-- R192: `ANC #$nn`. -/
def execAncImm0B (b : Byte) (s : State) : Result := readForm 0x0B (.immediate b) andCopySign s

/-- R192: `ANC #$nn`. -/
def execAncImm2B (b : Byte) (s : State) : Result := readForm 0x2B (.immediate b) andCopySign s

/-- R193: `ALR #$nn`. -/
def execAlrImm (b : Byte) (s : State) : Result := readForm 0x4B (.immediate b) andShiftRight s

/-- R194: `ARR #$nn`. -/
def execArrImm (b : Byte) (s : State) : Result := readForm 0x6B (.immediate b) andRotateRight s

/-- R195: `SBX #$nn`. -/
def execSbxImm (b : Byte) (s : State) : Result := readForm 0xCB (.immediate b) subtractFromAX s

/-- R196: `LAS $nnnn,Y`. -/
def execLasAby (w : Addr) (s : State) : Result := readForm 0xBB (.absoluteY w) andStackPointer s

/-- R197: `JAM`. -/
def execJam02 (s : State) : Result := haltForm s

/-- R197: `JAM`. -/
def execJam12 (s : State) : Result := haltForm s

/-- R197: `JAM`. -/
def execJam22 (s : State) : Result := haltForm s

/-- R197: `JAM`. -/
def execJam32 (s : State) : Result := haltForm s

/-- R197: `JAM`. -/
def execJam42 (s : State) : Result := haltForm s

/-- R197: `JAM`. -/
def execJam52 (s : State) : Result := haltForm s

/-- R197: `JAM`. -/
def execJam62 (s : State) : Result := haltForm s

/-- R197: `JAM`. -/
def execJam72 (s : State) : Result := haltForm s

/-- R197: `JAM`. -/
def execJam92 (s : State) : Result := haltForm s

/-- R197: `JAM`. -/
def execJamB2 (s : State) : Result := haltForm s

/-- R197: `JAM`. -/
def execJamD2 (s : State) : Result := haltForm s

/-- R197: `JAM`. -/
def execJamF2 (s : State) : Result := haltForm s

/-- R198: `ANE #$nn`. -/
def execAneImm (_b : Byte) (s : State) : Result := unimplementedForm 0x8B s

/-- R199: `LXA #$nn`. -/
def execLxaImm (_b : Byte) (s : State) : Result := unimplementedForm 0xAB s

/-- R200: `SHA ($nn),Y`. -/
def execShaIzy (_b : Byte) (s : State) : Result := unimplementedForm 0x93 s

/-- R200: `SHA $nnnn,Y`. -/
def execShaAby (_w : Addr) (s : State) : Result := unimplementedForm 0x9F s

/-- R201: `SHX $nnnn,Y`. -/
def execShxAby (_w : Addr) (s : State) : Result := unimplementedForm 0x9E s

/-- R202: `SHY $nnnn,X`. -/
def execShyAbx (_w : Addr) (s : State) : Result := unimplementedForm 0x9C s

/-- R203: `TAS $nnnn,Y`. -/
def execTasAby (_w : Addr) (s : State) : Result := unimplementedForm 0x9B s

end Sys2Proof.Machine
end

