-- ==== Sys2Proof/Machine/Fetch.lean ====
section
/-! DEFINITION. The Fetch and Decode stages of the step (spec/30_encoding.md R54) on any platform, and the placing of an
instruction where the next step fetches it. -/

namespace Sys2Proof.Machine

open Sys2Proof

variable {β : Type} {M : Platform β}

/-- How many bytes the step fetches: the row's length, but for an unimplemented opcode the opcode byte alone (R44, R54). A
JAM has length 1. -/
def fetchLength (opcode : Byte) : Nat :=
  match (lookup opcode).cls with
  | .unimplemented => 1
  | _ => (lookup opcode).length

/-- Reads the byte at `PC` through the bus and advances `PC` by 1, modulo 65536 (R15). -/
def State.On.fetchByte (s : State.On M) : Byte × State.On M :=
  let r := s.busRead s.PC
  (r.1, r.2.setPC (s.PC + 1))

/-- Fetch and Decode: a new list of bus calls, the opcode byte, then the operand bytes its row has, at ascending addresses
(R44), all through the bus; the instruction they decode to (R69), and the state with `PC` at `PCnext`. An operand byte that
is not fetched counts as 0; no meaning reads one. -/
def State.On.fetch (s : State.On M) : Instr × State.On M :=
  let op := (s.setBus []).fetchByte
  match fetchLength op.1 with
  | 2 =>
    let b1 := op.2.fetchByte
    (instrOf op.1 b1.1 0, b1.2)
  | 3 =>
    let b1 := op.2.fetchByte
    let b2 := b1.2.fetchByte
    (instrOf op.1 b1.1 b2.1, b2.2)
  | _ => (instrOf op.1 0 0, op.2)

/-- The state in which the instruction at `PC` is dispatched (R54). -/
def State.On.fetched (s : State.On M) : State.On M := s.fetch.2

/-- The instruction whose bytes stand at `PC` in the memory of FlatRam (R14, R50, R69). Claims name the instruction of a step
by it; the step itself fetches through the bus (log 9). -/
def instrAt (s : State) : Instr := instrOf (s.mem.read s.PC) (s.mem.read (s.PC + 1)) (s.mem.read (s.PC + 2))

/-- The state with the instruction whose bits are `w` placed at `PC`, the first byte in bits 7 to 0 and every bit from
`nbits` up 0, in three bytes, the longest instruction. A halted core fetches nothing (R213), so `halted` is cleared
(log 6). -/
def placeWord (s : State) (nbits w : Nat) : State :=
  let v := w % 2 ^ nbits
  let bytes : List Byte := [BitVec.ofNat 8 v, BitVec.ofNat 8 (v / 256), BitVec.ofNat 8 (v / 65536)]
  (s.setMem (s.mem.load s.PC bytes)).setHalted false

end Sys2Proof.Machine
end

