-- ==== Sys2Proof/Machine/Step.lean ====
section
/-! DEFINITION. One step (spec/30_encoding.md R54). -/

namespace Sys2Proof.Machine

open Sys2Proof

/-- One step: a halted core fails with `SteppedWhileHalted` and does nothing (R213); otherwise Fetch and Decode, and then
the instruction's Resolve, Dispatch and Retire in `exec`. `halted` is tested first (R214). `stepOn` of
Machine/AnyPlatform.lean is the same step on any platform. -/
def step (s : State) : Host.Outcome State Fault Refusal :=
  if s.halted then .fault .steppedWhileHalted else exec s.fetch.1 s.fetch.2

/-- `s` with the instruction `w` where `step` fetches its next one (log 6). -/
def State.withFetchWord (s : State) (nbits w : Nat) : State := placeWord s nbits w

end Sys2Proof.Machine
end

