-- ==== Sys2Proof/Machine/AnyPlatform.lean ====
section
/-! DEFINITION. The step with all parameters of spec/00_scope.md R4 as an argument: any configuration, and any bus
(spec/20_memory.md R30). -/

namespace Sys2Proof.Machine

open Sys2Proof

variable {β : Type} {M : Platform β}

/-- The displacement byte of a Relative operand. -/
def displacement : Operand → Byte
  | .relative d => d
  | .implied | .accumulator => 0
  | .immediate b | .zeroPage b | .zeroPageX b | .zeroPageY b | .indirectX b | .indirectY b => b
  | .absolute w | .absoluteX w | .absoluteY w | .indirect w => lo w

/-- Resolve, Dispatch and Retire (R54) of an instruction on any platform: the form of its mnemonic, on its opcode and operand.
`exec` is this on the platform of `State`, with one definition for each row (`exec_eq_execOn` of Laws/Exec.lean). -/
def execOn (i : Instr) (s : State.On M) : ResultOn M :=
  match i.mnemonic with
  | .LDA => readForm i.opcode i.operand loadA s
  | .LDX => readForm i.opcode i.operand loadX s
  | .LDY => readForm i.opcode i.operand loadY s
  | .ADC => readForm i.opcode i.operand State.On.addCore s
  | .SBC => readForm i.opcode i.operand subtractCore s
  | .AND => readForm i.opcode i.operand andA s
  | .ORA => readForm i.opcode i.operand oraA s
  | .EOR => readForm i.opcode i.operand eorA s
  | .CMP => readForm i.opcode i.operand compareA s
  | .CPX => readForm i.opcode i.operand compareX s
  | .CPY => readForm i.opcode i.operand compareY s
  | .BIT => readForm i.opcode i.operand bitTest s
  | .LAX => readForm i.opcode i.operand loadAX s
  | .LAS => readForm i.opcode i.operand andStackPointer s
  | .ANC => readForm i.opcode i.operand andCopySign s
  | .ALR => readForm i.opcode i.operand andShiftRight s
  | .ARR => readForm i.opcode i.operand andRotateRight s
  | .SBX => readForm i.opcode i.operand subtractFromAX s
  | .STA => storeForm i.opcode i.operand State.On.A s
  | .STX => storeForm i.opcode i.operand State.On.X s
  | .STY => storeForm i.opcode i.operand State.On.Y s
  | .SAX => storeForm i.opcode i.operand aAndX s
  | .ASL => rmwForm i.opcode i.operand shiftLeft State.On.setNZ s
  | .LSR => rmwForm i.opcode i.operand shiftRight State.On.setNZ s
  | .ROL => rmwForm i.opcode i.operand rotateLeft State.On.setNZ s
  | .ROR => rmwForm i.opcode i.operand rotateRight State.On.setNZ s
  | .INC => rmwForm i.opcode i.operand increment State.On.setNZ s
  | .DEC => rmwForm i.opcode i.operand decrement State.On.setNZ s
  | .DCP => rmwForm i.opcode i.operand decrement compareA s
  | .ISC => rmwForm i.opcode i.operand increment subtractCore s
  | .SLO => rmwForm i.opcode i.operand shiftLeft oraA s
  | .RLA => rmwForm i.opcode i.operand rotateLeft andA s
  | .SRE => rmwForm i.opcode i.operand shiftRight eorA s
  | .RRA => rmwForm i.opcode i.operand rotateRight State.On.addCore s
  | .JMP => jumpForm i.opcode i.operand State.On.setPC s
  | .JSR => jumpForm i.opcode i.operand callTo s
  | .BCC => branchForm i.opcode (displacement i.operand) (fun p => !p.C) s
  | .BCS => branchForm i.opcode (displacement i.operand) (fun p => p.C) s
  | .BEQ => branchForm i.opcode (displacement i.operand) (fun p => p.Z) s
  | .BNE => branchForm i.opcode (displacement i.operand) (fun p => !p.Z) s
  | .BMI => branchForm i.opcode (displacement i.operand) (fun p => p.N) s
  | .BPL => branchForm i.opcode (displacement i.operand) (fun p => !p.N) s
  | .BVC => branchForm i.opcode (displacement i.operand) (fun p => !p.V) s
  | .BVS => branchForm i.opcode (displacement i.operand) (fun p => p.V) s
  | .BRK => impliedForm i.opcode breakTrap s
  | .RTI => impliedForm i.opcode State.On.returnFromTrap s
  | .RTS => impliedForm i.opcode returnFromCall s
  | .PHA => impliedForm i.opcode pushA s
  | .PHP => impliedForm i.opcode pushP s
  | .PLA => impliedForm i.opcode pullA s
  | .PLP => impliedForm i.opcode pullP s
  | .TAX => impliedForm i.opcode transferAX s
  | .TAY => impliedForm i.opcode transferAY s
  | .TXA => impliedForm i.opcode transferXA s
  | .TYA => impliedForm i.opcode transferYA s
  | .TSX => impliedForm i.opcode transferSX s
  | .TXS => impliedForm i.opcode transferXS s
  | .INX => impliedForm i.opcode incrementX s
  | .INY => impliedForm i.opcode incrementY s
  | .DEX => impliedForm i.opcode decrementX s
  | .DEY => impliedForm i.opcode decrementY s
  | .CLC => impliedForm i.opcode clearC s
  | .CLD => impliedForm i.opcode clearD s
  | .CLI => impliedForm i.opcode clearI s
  | .CLV => impliedForm i.opcode clearV s
  | .SEC => impliedForm i.opcode setC s
  | .SED => impliedForm i.opcode setD s
  | .SEI => impliedForm i.opcode setI s
  | .NOP => readForm i.opcode i.operand discardByte s
  | .JAM => haltForm s
  | .ANE | .LXA | .SHA | .SHX | .SHY | .TAS => unimplementedForm i.opcode s

/-- One step on any platform (R23, R54): `CpuState x BusState -> Outcome x CpuState x BusState`. -/
def stepOn (s : State.On M) : ResultOn M :=
  if s.halted then .fault .steppedWhileHalted else execOn s.fetch.1 s.fetch.2

end Sys2Proof.Machine
end

