-- ==== Sys2Proof/Machine/HostPort.lean ====
section
/-! DEFINITION. The host's side of the machine: the outcome of a step as the spec's four-way sum
(spec/00_scope.md R7, spec/60_exceptions.md R210), the halted query (R22), the entry state a host builds
(spec/70_reset_and_hazards.md R246), the skip of a refused opcode (R212), and the raw-bytes entry point (R244). -/

namespace Sys2Proof.Machine

open Sys2Proof

variable {β : Type} {M : Platform β}

/-- "A closed sum type with these four constructors" (R210). -/
inductive StepOutcome where
  | ok (cycles : CycleCount)
  | illegalOpcodeHalt
  | unimplementedBehavior (opcode : Byte) (address : Addr)
  | steppedWhileHalted
  deriving DecidableEq, Repr

/-- The spec's outcome of a step from `s` that answered `r`, with the state the step leaves (R211 to R213) and the bus calls
it made. A next state without a cycle count is that of a JAM; an unimplemented opcode has been read through the bus and
nothing else has happened (R212). -/
def State.On.outcome (s : State.On M) (r : ResultOn M) : StepOutcome × State.On M :=
  let s0 := (s.setCycles none).setBus []
  match r with
  | .next t =>
    match t.cycles with
    | some n => (.ok n, t)
    | none => (.illegalOpcodeHalt, t)
  | .fault .steppedWhileHalted => (.steppedWhileHalted, s0)
  | .refused (.unimplementedBehavior op a) => (.unimplementedBehavior op a, (s0.busRead s.PC).2)
  | .refused _ => (.unimplementedBehavior (s0.busRead s.PC).1 s.PC, (s0.busRead s.PC).2)

/-- The spec's step, `CpuState x BusState -> Outcome x CpuState x BusState` (R23). -/
def stepOutcome (s : State) : StepOutcome × State := s.outcome (step s)

/-- The spec's step on any platform. -/
def stepOutcomeOn (s : State.On M) : StepOutcome × State.On M := s.outcome (stepOn s)

/-- "A way to query whether the CPU is halted" (R22). -/
def State.On.isHalted (s : State.On M) : Bool := s.halted

/-- A state the host builds with its own entry `PC` and bus state; every other register has its reset value and no vector is
read (R246). -/
def State.On.entry (pc : Addr) (b : β) : State.On M := (State.On.powerUp M b).setPC pc

/-- The host's "skip" of R212: the descriptor's length is added to `PC`. The host finds the opcode in its memory. -/
def State.On.skipOpcode (s : State) : State := s.setPC (s.PC + BitVec.ofNat 16 (instrAt s).length)

/-- How a run of R244 ends. `outOfFuel` is this model's: the run needs a bound (log 14). -/
inductive RunEnd where
  | ranOffTheEnd
  | failed (o : StepOutcome)
  | outOfFuel
  deriving DecidableEq, Repr

/-- What `run_bytes` returns (R244). -/
structure RunResult {β : Type} (M : Platform β) where
  ending : RunEnd
  state : State.On M
  cycles : Nat
  deriving DecidableEq, Repr

/-- The loop of R244: step until `PC` is `stop` or a step does not return `Ok`, adding up the cycle counts. `stop` is a sum
over the unbounded integers (R5), so no `PC` is 65536. -/
def runUntil (stop : Nat) : Nat → Nat → State.On M → RunResult M
  | 0, total, s => ⟨if s.PC.toNat = stop then .ranOffTheEnd else .outOfFuel, s, total⟩
  | fuel + 1, total, s =>
    if s.PC.toNat = stop then ⟨.ranOffTheEnd, s, total⟩
    else
      match stepOutcomeOn s with
      | (.ok n, t) => runUntil stop fuel (total + n.toNat) t
      | (o, t) => ⟨.failed o, t, total⟩

/-- `run_bytes(bytes, pre)` of R244 on FlatRam with any configuration, with a bound on the number of steps. The rule gives a
run only for `n <= 65536 - STREAM_BASE`; a longer stream has none. -/
def runBytes (c : Config) (fuel : Nat) (bytes : List Byte)
    (pre : State.On (Platform.flat c) → State.On (Platform.flat c)) : Option (RunResult (Platform.flat c)) :=
  let stop := c.streamBase.toNat + bytes.length
  if stop ≤ 65536 then
    some (runUntil stop fuel 0 (pre (State.On.entry c.streamBase (Memory.load [] c.streamBase bytes))))
  else none

end Sys2Proof.Machine
end

