-- ==== Sys2Proof/Safety.lean ====
section
/-! DEFINITION. What claims about runs are stated in: the invariant of the machine, and what counts as a successful step
(spec/60_exceptions.md R210, R211, R222). -/

namespace Sys2Proof.Machine

open Sys2Proof

/-- The invariant every step and reset keeps: memory is in its canonical form, and a halted core has no cycle count to
report (R211: the step that halts reports none, and none follows it). -/
abbrev State.On.Inv (s : State) : Prop := s.mem.wf ∧ (s.halted = true → s.cycles = none)

/-- A step that returns `Ok(n)` (R210). A JAM gives a next state too, but no successful one: "the state it leaves is never a
final state of a successful run" (R211). -/
def SuccessfulStep (s : State) (n : CycleCount) (t : State) : Prop := stepOutcome s = (.ok n, t)

/-- States reached by successful steps only. -/
inductive SuccessfulRun : State → State → Prop where
  | start (s : State) : SuccessfulRun s s
  | step (s t u : State) (n : CycleCount) : SuccessfulRun s t → SuccessfulStep t n u → SuccessfulRun s u

/-- A state in which no step is enabled until reset (R222). -/
def Stuck (s : State) : Prop := step s = .fault .steppedWhileHalted

end Sys2Proof.Machine
end

