-- ==== Sys2Proof/Certificates/Slice0/Obligations.lean ====
section
/-! DEFINITION. The statements for the provers. Each is `Obligations.<Name>`; OBLIGATIONS.json gives its title, its basis and
the rules it rests on. `exec i s` runs with `s.PC` at `PCnext` (spec/30_encoding.md R54). The helpers in
`Sys2Proof.Claims` spell the spec's laws out in arithmetic, apart from the operations the meanings use. -/

namespace Sys2Proof.Claims

open Sys2Proof Sys2Proof.Machine

/-- The rows of a mnemonic as the decoder and the table have them: opcode byte, mode, length, base cycles, `+p`. -/
def formsOf (m : Mnemonic) : List (Byte × Mode × Nat × Nat × Bool) :=
  (List.range 256).filterMap fun n =>
    let op : Byte := BitVec.ofNat 8 n
    let i := instrOf op 0 0
    if i.mnemonic = m then
      some (op, i.operand.mode, (lookup op).length, (lookup op).baseCycles, (lookup op).pagePenalty)
    else none

/-- The Zero and Negative laws of R21 on the result byte `v`. -/
def nz (p : Status) (v : Byte) : Status := { p with Z := decide (v = 0), N := decide (128 ≤ v.toNat) }

/-- R109 on bytes `r` and `m`, in unsigned numbers. -/
def compared (p : Status) (r m : Byte) : Status :=
  { p with C := decide (m.toNat ≤ r.toNat), Z := decide (r = m), N := decide (128 ≤ (r - m).toNat) }

/-- The registers after `A + m + P.C` (R108): Carry from the unsigned sum, Overflow from the signed one. -/
def added (m : Byte) (s : State) : State :=
  let c := s.P.C.toNat
  let r : Byte := BitVec.ofNat 8 (s.A.toNat + m.toNat + c)
  let v : Int := s.A.toInt + m.toInt + c
  { s with
    A := r
    P := nz { s.P with C := decide (255 < s.A.toNat + m.toNat + c), V := decide (v < -128 ∨ 127 < v) } r }

/-- The registers after `A - m - (1 - P.C)` (R111): Carry when no borrow occurs, Overflow from the signed difference. -/
def subtracted (m : Byte) (s : State) : State :=
  let b := 1 - s.P.C.toNat
  let r : Byte := BitVec.ofInt 8 ((s.A.toNat : Int) - m.toNat - b)
  let v : Int := s.A.toInt - m.toInt - b
  { s with
    A := r
    P := nz { s.P with C := decide (m.toNat + b ≤ s.A.toNat), V := decide (v < -128 ∨ 127 < v) } r }

/-- The effective address of an instruction's operand. -/
def ea (i : Instr) (s : State) : Addr := effectiveAddress i.operand s

/-- The byte an instruction reads (R72): the immediate byte, the byte at `ea`, or the accumulator. -/
def operandByte (i : Instr) (s : State) : Byte :=
  match (resolve i.operand s).1.operand with
  | .value v => v
  | .address a => s.mem.read a
  | .none => s.A

/-- The pointer reads of the modes that have a pointer (R44, item 3). -/
def pointerReads (o : Operand) (s : State) : List BusAccess :=
  match o with
  | .indirect w => [.read w (s.mem.read w), .read (word16 (hi w) (lo w + 1)) (s.mem.read (word16 (hi w) (lo w + 1)))]
  | .indirectX b =>
    [.read (zext16 (b + s.X)) (s.mem.read (zext16 (b + s.X))),
      .read (zext16 (b + s.X + 1)) (s.mem.read (zext16 (b + s.X + 1)))]
  | .indirectY b => [.read (zext16 b) (s.mem.read (zext16 b)), .read (zext16 (b + 1)) (s.mem.read (zext16 (b + 1)))]
  | .implied | .accumulator | .immediate _ | .zeroPage _ | .zeroPageX _ | .zeroPageY _ | .relative _
  | .absolute _ | .absoluteX _ | .absoluteY _ => []

/-- The data read of an instruction (R44, item 4): one in a memory mode, none otherwise. -/
def dataReads (i : Instr) (s : State) : List BusAccess :=
  match (resolve i.operand s).1.operand with
  | .address a => [.read a (s.mem.read a)]
  | .value _ => []
  | .none => []

/-- Base cycles plus the page penalty (R68). -/
def cyclesOf (i : Instr) (s : State) : Option CycleCount :=
  some (BitVec.ofNat 32 (i.descriptor.baseCycles
    + if i.descriptor.pagePenalty && (resolve i.operand s).1.pageCrossed then 1 else 0))

/-- The whole state after an instruction that reads its operand and leaves `t` in the registers and flags. -/
def afterRead (i : Instr) (s t : State) : State :=
  { t with cycles := cyclesOf i s, bus := s.bus ++ pointerReads i.operand s ++ dataReads i s }

/-- The whole state after a store of `v`: one byte of memory, no register, no flag. -/
def afterStore (i : Instr) (s : State) (v : Byte) : State :=
  { s with
    mem := s.mem.write (ea i s) v
    cycles := cyclesOf i s
    bus := s.bus ++ pointerReads i.operand s ++ [.write (ea i s) v] }

/-- The whole state after a memory read-modify-write that writes `r` and leaves `t` in the registers and flags. -/
def afterModify (i : Instr) (s : State) (r : Byte) (t : State) : State :=
  { t with
    mem := s.mem.write (ea i s) r
    cycles := cyclesOf i s
    bus := s.bus ++ pointerReads i.operand s ++ [.read (ea i s) (operandByte i s), .write (ea i s) r] }

/-- The whole state after a shift or rotate with result `r` and carry out `c`, in its Accumulator form or a memory form
(R134). -/
def afterShift (i : Instr) (s : State) (r : Byte) (c : Bool) : State :=
  if i.operand = .accumulator then { s with A := r, P := nz { s.P with C := c } r, cycles := some 2 }
  else afterModify i s r { s with P := nz { s.P with C := c } r }

/-- The branch target (R66): `PCnext` plus the signed displacement, modulo 65536. -/
def branchTarget (d : Byte) (s : State) : Addr := BitVec.ofInt 16 ((s.PC.toNat : Int) + d.toInt)

/-- The whole state after a branch (R148). -/
def afterBranch (d : Byte) (taken : Bool) (s : State) : State :=
  if taken then
    { s with
      PC := branchTarget d s
      cycles := some (if (branchTarget d s).toNat / 256 = s.PC.toNat / 256 then 3 else 4) }
  else { s with cycles := some 2 }

/-- The whole state after BRK (R157, R216) on FlatRam with a configuration. -/
def afterBrk (c : Config) (s : State.On (Platform.flat c)) : State.On (Platform.flat c) :=
  let ret : Addr := s.PC + 1
  let st : Byte := s.P.pack ||| 0x10
  let a1 : Addr := BitVec.ofNat 16 (256 + s.S.toNat)
  let a2 : Addr := BitVec.ofNat 16 (256 + (s.S - 1).toNat)
  let a3 : Addr := BitVec.ofNat 16 (256 + (s.S - 2).toNat)
  let m := ((s.mem.write a1 (hi ret)).write a2 (lo ret)).write a3 st
  let v := c.brkVector
  { s with
    S := s.S - 3
    PC := m.read (v + 1) ++ m.read v
    P := { s.P with I := true }
    mem := m
    cycles := some 7
    bus := s.bus ++ [.write a1 (hi ret), .write a2 (lo ret), .write a3 st, .read v (m.read v),
      .read (v + 1) (m.read (v + 1))] }

/-- The bus state after a list of calls made one after another, each read answering the byte recorded; none where the bus
answers another byte. -/
def replay {β : Type} (M : Platform β) : β → List BusAccess → Option β
  | b, [] => some b
  | b, .read a v :: l => if (M.read b a).1 = v then replay M (M.read b a).2 l else none
  | b, .write a v :: l => replay M (M.write b a v) l

/-- The condition column of R149 to R156. -/
def branchTaken (m : Mnemonic) (p : Status) : Bool :=
  (m == .BCC && !p.C) || (m == .BCS && p.C) || (m == .BEQ && p.Z) || (m == .BNE && !p.Z) || (m == .BMI && p.N)
    || (m == .BPL && !p.N) || (m == .BVC && !p.V) || (m == .BVS && p.V)

/-- The penalty of R68. -/
def penaltyOf (i : Instr) (s : State) : Nat :=
  if i.mnemonic.isBranch then
    if branchTaken i.mnemonic s.P then (if (resolve i.operand s).1.pageCrossed then 2 else 1) else 0
  else if i.descriptor.pagePenalty && (resolve i.operand s).1.pageCrossed then 1 else 0

/-- Runs one instruction and stays where it stops. -/
def runOne (i : Instr) (s : State) : State :=
  match exec i s with
  | .next t => t
  | .fault _ => s
  | .refused _ => s

/-- Writers of Z and N in the table of R21. -/
def nzWriters : List Mnemonic :=
  [.LDA, .LDX, .LDY, .TAX, .TAY, .TXA, .TYA, .TSX, .PLA, .AND, .ORA, .EOR, .INC, .DEC, .INX, .INY, .DEX, .DEY, .LAX, .LAS,
    .ADC, .SBC, .ISC, .RRA, .CMP, .CPX, .CPY, .DCP, .SBX, .ASL, .LSR, .ROL, .ROR, .SLO, .RLA, .SRE, .ANC, .ALR, .ARR, .BIT,
    .PLP, .RTI]

/-- Writers of C in the table of R21. -/
def cWriters : List Mnemonic :=
  [.ADC, .SBC, .ISC, .RRA, .CMP, .CPX, .CPY, .DCP, .SBX, .ASL, .LSR, .ROL, .ROR, .SLO, .RLA, .SRE, .ANC, .ALR, .ARR, .CLC,
    .SEC, .PLP, .RTI]

/-- Writers of V in the table of R21. -/
def vWriters : List Mnemonic := [.ADC, .SBC, .ISC, .RRA, .ARR, .BIT, .CLV, .PLP, .RTI]

/-- Instructions that write a byte at `ea`; the shifts do so in their memory forms. -/
def eaWriters : List Mnemonic :=
  [.STA, .STX, .STY, .SAX, .INC, .DEC, .ASL, .LSR, .ROL, .ROR, .DCP, .ISC, .SLO, .RLA, .SRE, .RRA]

/-- Instructions that push. -/
def pushers : List Mnemonic := [.PHA, .PHP, .JSR, .BRK]

end Sys2Proof.Claims

open Sys2Proof Sys2Proof.Machine Sys2Proof.Claims

/-- Decoding the bytes of any instruction gives it back, and the rest of the bytes. Rests on R50, R51, R69. -/
def Obligations.DecodeInvertsEncode : Prop :=
  ∀ (i : Instr) (rest : List Byte), decode (encode i ++ rest) = .ok (i, rest)

/-- Encoding a decoded instruction gives back its bytes, and only a list too short for its opcode fails to decode. Rests
on R50, R51, R52, R69, R71, R75. -/
def Obligations.EncodeInvertsDecode : Prop :=
  (∀ (bytes rest : List Byte) (i : Instr), decode bytes = .ok (i, rest) → encode i ++ rest = bytes) ∧
    (∀ (op : Byte) (rest : List Byte),
      (∃ i r, decode (op :: rest) = .ok (i, r)) ↔ (lookup op).length ≤ rest.length + 1) ∧
    ∀ i r, decode [] ≠ .ok (i, r)

/-- Every opcode byte has its own well-formed row, in the four classes 151, 86, 12 and 7. Rests on R52, R53, R69, R70. -/
def Obligations.TableIsTotalAndWellFormed : Prop :=
  (∀ op : Byte, (lookup op).opcode = op ∧ (lookup op).wellFormed = true) ∧
    (((List.range 256).map fun n => (lookup (BitVec.ofNat 8 n)).cls).count .official = 151) ∧
    (((List.range 256).map fun n => (lookup (BitVec.ofNat 8 n)).cls).count .unofficial = 86) ∧
    (((List.range 256).map fun n => (lookup (BitVec.ofNat 8 n)).cls).count .jam = 12) ∧
    (((List.range 256).map fun n => (lookup (BitVec.ofNat 8 n)).cls).count .unimplemented = 7)

/-- Instruction bytes written out from the spec decode to the instructions they stand for. Rests on R80, R83, R100,
R110, R135, R146, R152, R170, R191, R197. -/
def Obligations.SpecWordsDecode : Prop :=
  decode [0xA9, 0x85] = .ok (.ldaImm 0x85, []) ∧
    decode [0x8D, 0x00, 0x02] = .ok (.staAbs 0x0200, []) ∧
    decode [0x48] = .ok (.pha, []) ∧
    decode [0x71, 0x10] = .ok (.adcIzy 0x10, []) ∧
    decode [0x0A] = .ok (.aslAcc, []) ∧
    decode [0x20, 0x34, 0x12] = .ok (.jsr 0x1234, []) ∧
    decode [0xD0, 0xFD] = .ok (.bne 0xFD, []) ∧
    decode [0x18] = .ok (.clc, []) ∧
    decode [0x7F, 0xFF, 0x20] = .ok (.rraAbx 0x20FF, []) ∧
    decode [0x02] = .ok (.jam02, [])

/-- The instruction a table word decodes to is the one the next step runs when the word is placed. Rests on R54, R246,
log 6. How withFetchWord places a word (three bytes at PC, bits above `nbits` 0, `halted` cleared) is the model's
choice (log 6). -/
def Obligations.PlacedWordIsFetched : Prop :=
  ∀ (s : State) (nbits w : Nat) (i : Instr), decodeTableWord nbits w = some i →
    (s.withFetchWord nbits w).halted = false ∧ instrAt (s.withFetchWord nbits w) = i ∧
      step (s.withFetchWord nbits w) = exec i (s.withFetchWord nbits w).fetched

/-- A step runs the instruction whose bytes stand at PC, with PC past its bytes, as the step of any platform does. Rests
on R4, R15, R30, R44, R47, R54. -/
def Obligations.StepRunsTheDecodedInstruction : Prop :=
  (∀ (s : State) (i : Instr) (rest : List Byte), s.halted = false →
    decode [s.mem.read s.PC, s.mem.read (s.PC + 1), s.mem.read (s.PC + 2)] = .ok (i, rest) →
    let n := if i.descriptor.cls = .unimplemented then 1 else i.length
    step s = exec i { s with
      PC := s.PC + BitVec.ofNat 16 n
      bus := [BusAccess.read s.PC (s.mem.read s.PC), .read (s.PC + 1) (s.mem.read (s.PC + 1)),
        .read (s.PC + 2) (s.mem.read (s.PC + 2))].take n }) ∧
  (∀ (i : Instr) (s : State), exec i s = execOn i s) ∧
  ∀ s : State, step s = stepOn s

/-- A halted core answers SteppedWhileHalted, makes no bus call and changes nothing. Rests on R213. -/
def Obligations.HaltedCoreRefusesToStep : Prop :=
  ∀ s : State, s.halted = true →
    step s = .fault .steppedWhileHalted ∧ stepOutcome s = (.steppedWhileHalted, { s with cycles := none, bus := [] })

/-- A running step ends Ok, IllegalOpcodeHalt or UnimplementedBehavior, as the class of its opcode says. Rests on R210,
R211, R212. -/
def Obligations.StepOutcomeFollowsTheClass : Prop :=
  ∀ s : State, s.halted = false →
    let op := s.mem.read s.PC
    (((lookup op).cls = .official ∨ (lookup op).cls = .unofficial) →
      ∃ n t, stepOutcome s = (.ok n, t) ∧ t.halted = false ∧ 2 ≤ n.toNat ∧ n.toNat ≤ 8) ∧
    ((lookup op).cls = .jam → ∃ t,
      stepOutcome s = (.illegalOpcodeHalt, t) ∧
      t = { s with PC := s.PC + 1, halted := true, cycles := none, bus := [.read s.PC op] } ∧
      (stepOutcome t).1 = .steppedWhileHalted) ∧
    ((lookup op).cls = .unimplemented → ∃ t,
      stepOutcome s = (.unimplementedBehavior op s.PC, t) ∧
      t = { s with cycles := none, bus := [.read s.PC op] } ∧
      stepOutcome t = (.unimplementedBehavior op s.PC, t) ∧
      t.skipOpcode = { t with PC := s.PC + BitVec.ofNat 16 (lookup op).length })

/-- Every step keeps memory canonical and a halted core without a cycle count. Rests on R49, R211, log 1, log 3. -/
def Obligations.StepKeepsTheInvariant : Prop :=
  ∀ s t : State, s.Inv → step s = .next t → t.Inv

/-- The invariant holds after reset. Rests on R240, R49, log 1, log 3. -/
def Obligations.ResetEstablishesTheInvariant : Prop :=
  State.reset.Inv ∧ ∀ (c : Config) (s : State), s.mem.wf → (s.resetWith c).Inv

/-- Reset assigns every register from the parameters, loads PC from the vector and leaves memory alone. Rests on R240,
R241, R242. -/
def Obligations.ResetAssignsEveryRegister : Prop :=
  ∀ (c : Config) (s : State),
    s.resetWith c =
      { A := c.resetA
        X := c.resetX
        Y := c.resetY
        S := c.resetS
        PC := s.mem.read (c.resetVector + 1) ++ s.mem.read c.resetVector
        P :=
          { C := c.resetP[0], Z := c.resetP[1], I := c.resetP[2], D := c.resetP[3]
            B := c.resetP[4], V := c.resetP[6], N := c.resetP[7] }
        halted := false
        mem := s.mem
        cycles := none
        bus := [.read c.resetVector (s.mem.read c.resetVector),
          .read (c.resetVector + 1) (s.mem.read (c.resetVector + 1))] }

/-- The reset state is the reset procedure on empty memory, with the defaults of this model's configuration. Rests on
10_state.md section 5, log 1, log 4, log 5. The values are the defaults of R4, which this model chooses (logs 1, 4
and 5). -/
def Obligations.ResetStateHasTheDefaultValues : Prop :=
  (∀ s : State, s.mem = [] → s.resetFrom = State.reset) ∧
    State.reset.A = 0x00 ∧ State.reset.X = 0x00 ∧ State.reset.Y = 0x00 ∧ State.reset.S = 0xFD ∧
    State.reset.P.pack = 0x24 ∧ State.reset.PC = 0x0000 ∧ State.reset.halted = false ∧ State.reset.mem = []

/-- Every bus is used by its read and write calls alone; on FlatRam a read gives the last byte written at its address.
Rests on R4, R30, R43, R45, R49, log 1, log 3. -/
def Obligations.MemoryIsReachedOnlyByBusCalls : Prop :=
  (∀ (β : Type) (M : Platform β) (s : State.On M),
    replay M s.mem (stepOutcomeOn s).2.bus = some (stepOutcomeOn s).2.mem ∧
      replay M s.mem s.resetFrom.bus = some s.resetFrom.mem) ∧
  (∀ (s : State) (a b : Addr) (v : Byte),
    ((s.busWrite a v).busRead b).1 = (if b = a then v else (s.busRead b).1) ∧ (s.busRead b).2.mem = s.mem) ∧
  ∀ a : Addr, Memory.read [] a = 0x00

/-- Push writes at 0x0100 + S and decrements S; Pull increments S and reads there; both wrap inside page 1. Rests on
R38, R39. -/
def Obligations.PushAndPullUseTheStackPage : Prop :=
  ∀ (v : Byte) (s : State),
    (s.push v =
      { s with
        S := s.S - 1
        mem := s.mem.write (BitVec.ofNat 16 (256 + s.S.toNat)) v
        bus := s.bus ++ [.write (BitVec.ofNat 16 (256 + s.S.toNat)) v] }) ∧
    let a : Addr := BitVec.ofNat 16 (256 + (s.S.toNat + 1) % 256)
    s.pull = (s.mem.read a, { s with S := s.S + 1, bus := s.bus ++ [.read a (s.mem.read a)] })

/-- Pull after Push gives the byte pushed and restores S; the same for 16-bit values. Rests on R38, R39, R40. -/
def Obligations.PullUndoesPush : Prop :=
  ∀ (v : Byte) (w : Addr) (s : State),
    (s.push v).pull.1 = v ∧ (s.push v).pull.2.S = s.S ∧
    (s.push16 w).pull16.1 = w ∧ (s.push16 w).pull16.2.S = s.S ∧
    (s.push16 w).mem.read (stackAddr s.S) = hi w ∧ (s.push16 w).mem.read (stackAddr (s.S - 1)) = lo w

/-- The three 16-bit reads take the low byte first and find the high byte by their own wrap rule. Rests on R37. -/
def Obligations.SixteenBitReadsAreLittleEndianAndWrap : Prop :=
  ∀ (a : Addr) (p : Byte) (s : State),
    let h1 : Addr := BitVec.ofNat 16 ((a.toNat + 1) % 65536)
    let l2 : Addr := BitVec.ofNat 16 p.toNat
    let h2 : Addr := BitVec.ofNat 16 ((p.toNat + 1) % 256)
    let h3 : Addr := BitVec.ofNat 16 (a.toNat / 256 * 256 + (a.toNat % 256 + 1) % 256)
    (s.read16 a = (BitVec.ofNat 16 ((s.mem.read h1).toNat * 256 + (s.mem.read a).toNat),
      { s with bus := s.bus ++ [.read a (s.mem.read a), .read h1 (s.mem.read h1)] })) ∧
    (s.read16ZP p = (BitVec.ofNat 16 ((s.mem.read h2).toNat * 256 + (s.mem.read l2).toNat),
      { s with bus := s.bus ++ [.read l2 (s.mem.read l2), .read h2 (s.mem.read h2)] })) ∧
    (s.read16SamePage a = (BitVec.ofNat 16 ((s.mem.read h3).toNat * 256 + (s.mem.read a).toNat),
      { s with bus := s.bus ++ [.read a (s.mem.read a), .read h3 (s.mem.read h3)] }))

/-- Immediate gives its byte, Implied and Accumulator no operand, Relative the target past the instruction. Rests on
R55, R65, R66, R67, 30_encoding.md section 3 (the contract of the resolver, before R55), log 8. The form in which
the resolver hands over a Relative operand (the target as the address, the page test as the page flag) is the
model's choice (log 8). -/
def Obligations.ImmediateImpliedAndRelativeOperands : Prop :=
  ∀ (b : Byte) (s : State),
    resolve (.immediate b) s = (⟨.value b, false⟩, s) ∧
    resolve .implied s = (⟨.none, false⟩, s) ∧
    resolve .accumulator s = (⟨.none, false⟩, s) ∧
    resolve (.relative b) s =
      (⟨.address (branchTarget b s), decide ((branchTarget b s).toNat / 256 ≠ s.PC.toNat / 256)⟩, s)

/-- Zero-page addresses wrap modulo 256, absolute ones modulo 65536 with the page-crossing test. Rests on R56, R57, R58,
R59, R60, R61. -/
def Obligations.ZeroPageAndAbsoluteAddresses : Prop :=
  ∀ (b : Byte) (w : Addr) (s : State),
    let zx : Addr := BitVec.ofNat 16 ((b.toNat + s.X.toNat) % 256)
    let zy : Addr := BitVec.ofNat 16 ((b.toNat + s.Y.toNat) % 256)
    let ax : Addr := BitVec.ofNat 16 ((w.toNat + s.X.toNat) % 65536)
    let ay : Addr := BitVec.ofNat 16 ((w.toNat + s.Y.toNat) % 65536)
    resolve (.zeroPage b) s = (⟨.address (BitVec.ofNat 16 b.toNat), false⟩, s) ∧
    resolve (.zeroPageX b) s = (⟨.address zx, false⟩, s) ∧
    resolve (.zeroPageY b) s = (⟨.address zy, false⟩, s) ∧
    resolve (.absolute w) s = (⟨.address w, false⟩, s) ∧
    resolve (.absoluteX w) s = (⟨.address ax, decide (ax.toNat / 256 ≠ w.toNat / 256)⟩, s) ∧
    resolve (.absoluteY w) s = (⟨.address ay, decide (ay.toNat / 256 ≠ w.toNat / 256)⟩, s)

/-- Indirect reads its pointer inside one page, IndirectX and IndirectY inside page zero. Rests on R62, R63, R64. -/
def Obligations.PointerModesFollowTheirWraps : Prop :=
  ∀ (b : Byte) (w : Addr) (s : State),
    let wl := s.mem.read w
    let wh := s.mem.read (BitVec.ofNat 16 (w.toNat / 256 * 256 + (w.toNat % 256 + 1) % 256))
    let xl := s.mem.read (BitVec.ofNat 16 ((b.toNat + s.X.toNat) % 256))
    let xh := s.mem.read (BitVec.ofNat 16 ((b.toNat + s.X.toNat + 1) % 256))
    let yl := s.mem.read (BitVec.ofNat 16 b.toNat)
    let yh := s.mem.read (BitVec.ofNat 16 ((b.toNat + 1) % 256))
    let y : Addr := BitVec.ofNat 16 ((yh.toNat * 256 + yl.toNat + s.Y.toNat) % 65536)
    resolve (.indirect w) s =
      (⟨.address (BitVec.ofNat 16 (wh.toNat * 256 + wl.toNat)), false⟩,
        { s with bus := s.bus ++ pointerReads (.indirect w) s }) ∧
    resolve (.indirectX b) s =
      (⟨.address (BitVec.ofNat 16 (xh.toNat * 256 + xl.toNat)), false⟩,
        { s with bus := s.bus ++ pointerReads (.indirectX b) s }) ∧
    resolve (.indirectY b) s =
      (⟨.address y, decide (y.toNat / 256 ≠ yh.toNat)⟩,
        { s with bus := s.bus ++ pointerReads (.indirectY b) s })

/-- Pack lays the flags out with bit 5 at 1, Unpack loads all but bit 5, and they undo each other. Rests on R18, R19. -/
def Obligations.PackAndUnpackTheStatusByte : Prop :=
  ∀ (p : Status) (b : Byte),
    (p.pack[0] = p.C ∧ p.pack[1] = p.Z ∧ p.pack[2] = p.I ∧ p.pack[3] = p.D ∧ p.pack[4] = p.B ∧ p.pack[5] = true ∧
      p.pack[6] = p.V ∧ p.pack[7] = p.N) ∧
    (Status.unpack b =
      { C := b[0], Z := b[1], I := b[2], D := b[3], B := b[4], V := b[6], N := b[7] }) ∧
    Status.unpack p.pack = p ∧ (Status.unpack b).pack = b ||| 0x20

/-- The adder gives A + m + C modulo 256, Carry from the unsigned and Overflow from the signed sum. Rests on R108. -/
def Obligations.AdderFollowsTheIntegerLaws : Prop :=
  ∀ (m : Byte) (s : State), s.addCore m = added m s

/-- A comparison sets Carry, Zero and Negative from the unsigned difference and changes nothing else. Rests on R109. -/
def Obligations.ComparisonFollowsTheIntegerLaws : Prop :=
  ∀ (r m : Byte) (s : State), s.compare r m = { s with P := compared s.P r m }

/-- Nine ROL A, or nine ROR A, restore the accumulator and the carry. Rests on R137, R138, 95_test_vectors.md Q15. -/
def Obligations.NineRotatesRestoreTheAccumulator : Prop :=
  ∀ s : State,
    (((runOne .rolAcc)^[9] s).A = s.A ∧ ((runOne .rolAcc)^[9] s).P.C = s.P.C) ∧
    (((runOne .rorAcc)^[9] s).A = s.A ∧ ((runOne .rorAcc)^[9] s).P.C = s.P.C)

/-- LDA, LDX and LDY load the operand byte and set Z and N from it, and nothing else. Rests on R80, R81, R82. -/
def Obligations.LoadsSetTheRegisterAndNZ : Prop :=
  formsOf .LDA =
    [(0xA1, .indirectX, 2, 6, false), (0xA5, .zeroPage, 2, 3, false), (0xA9, .immediate, 2, 2, false),
      (0xAD, .absolute, 3, 4, false), (0xB1, .indirectY, 2, 5, true), (0xB5, .zeroPageX, 2, 4, false),
      (0xB9, .absoluteY, 3, 4, true), (0xBD, .absoluteX, 3, 4, true)] ∧
  formsOf .LDX =
    [(0xA2, .immediate, 2, 2, false), (0xA6, .zeroPage, 2, 3, false), (0xAE, .absolute, 3, 4, false),
      (0xB6, .zeroPageY, 2, 4, false), (0xBE, .absoluteY, 3, 4, true)] ∧
  formsOf .LDY =
    [(0xA0, .immediate, 2, 2, false), (0xA4, .zeroPage, 2, 3, false), (0xAC, .absolute, 3, 4, false),
      (0xB4, .zeroPageX, 2, 4, false), (0xBC, .absoluteX, 3, 4, true)] ∧
  ∀ (i : Instr) (s : State),
    (i.mnemonic = .LDA →
      exec i s = .next (afterRead i s { s with A := operandByte i s, P := nz s.P (operandByte i s) })) ∧
    (i.mnemonic = .LDX →
      exec i s = .next (afterRead i s { s with X := operandByte i s, P := nz s.P (operandByte i s) })) ∧
    (i.mnemonic = .LDY →
      exec i s = .next (afterRead i s { s with Y := operandByte i s, P := nz s.P (operandByte i s) }))

/-- STA, STX and STY write the register at the effective address, and nothing else. Rests on R83, R84, R85. -/
def Obligations.StoresWriteOneByte : Prop :=
  formsOf .STA =
    [(0x81, .indirectX, 2, 6, false), (0x85, .zeroPage, 2, 3, false), (0x8D, .absolute, 3, 4, false),
      (0x91, .indirectY, 2, 6, false), (0x95, .zeroPageX, 2, 4, false), (0x99, .absoluteY, 3, 5, false),
      (0x9D, .absoluteX, 3, 5, false)] ∧
  formsOf .STX =
    [(0x86, .zeroPage, 2, 3, false), (0x8E, .absolute, 3, 4, false), (0x96, .zeroPageY, 2, 4, false)] ∧
  formsOf .STY =
    [(0x84, .zeroPage, 2, 3, false), (0x8C, .absolute, 3, 4, false), (0x94, .zeroPageX, 2, 4, false)] ∧
  ∀ (i : Instr) (s : State),
    (i.mnemonic = .STA → exec i s = .next (afterStore i s s.A)) ∧
    (i.mnemonic = .STX → exec i s = .next (afterStore i s s.X)) ∧
    (i.mnemonic = .STY → exec i s = .next (afterStore i s s.Y))

/-- TAX, TAY, TXA, TYA, TSX and TXS copy one register; all but TXS set Z and N. Rests on R86, R87, R88, R89, R90, R91. -/
def Obligations.TransfersCopyARegister : Prop :=
  formsOf .TAX =
    [(0xAA, .implied, 1, 2, false)] ∧
  formsOf .TAY =
    [(0xA8, .implied, 1, 2, false)] ∧
  formsOf .TXA =
    [(0x8A, .implied, 1, 2, false)] ∧
  formsOf .TYA =
    [(0x98, .implied, 1, 2, false)] ∧
  formsOf .TSX =
    [(0xBA, .implied, 1, 2, false)] ∧
  formsOf .TXS =
    [(0x9A, .implied, 1, 2, false)] ∧
  ∀ s : State,
    exec .tax s = .next { s with X := s.A, P := nz s.P s.A, cycles := some 2 } ∧
    exec .tay s = .next { s with Y := s.A, P := nz s.P s.A, cycles := some 2 } ∧
    exec .txa s = .next { s with A := s.X, P := nz s.P s.X, cycles := some 2 } ∧
    exec .tya s = .next { s with A := s.Y, P := nz s.P s.Y, cycles := some 2 } ∧
    exec .tsx s = .next { s with X := s.S, P := nz s.P s.S, cycles := some 2 } ∧
    exec .txs s = .next { s with S := s.X, cycles := some 2 }

/-- PHA pushes the accumulator and PHP the packed status, in 3 cycles. Rests on R100, R101. -/
def Obligations.StackPushesStoreAndDecrement : Prop :=
  formsOf .PHA =
    [(0x48, .implied, 1, 3, false)] ∧
  formsOf .PHP =
    [(0x08, .implied, 1, 3, false)] ∧
  ∀ s : State,
    let a : Addr := BitVec.ofNat 16 (256 + s.S.toNat)
    exec .pha s =
      .next { s with S := s.S - 1, mem := s.mem.write a s.A, cycles := some 3, bus := s.bus ++ [.write a s.A] } ∧
    exec .php s =
      .next { s with S := s.S - 1, mem := s.mem.write a s.P.pack, cycles := some 3, bus := s.bus ++ [.write a s.P.pack] } ∧
    s.P.pack[5] = true ∧ s.P.pack[4] = s.P.B

/-- PLA pulls the accumulator and sets Z and N; PLP pulls every flag. Rests on R102, R103. -/
def Obligations.StackPullsLoadAndIncrement : Prop :=
  formsOf .PLA =
    [(0x68, .implied, 1, 4, false)] ∧
  formsOf .PLP =
    [(0x28, .implied, 1, 4, false)] ∧
  ∀ s : State,
    let a : Addr := BitVec.ofNat 16 (256 + (s.S.toNat + 1) % 256)
    let m := s.mem.read a
    exec .pla s =
      .next { s with A := m, S := s.S + 1, P := nz s.P m, cycles := some 4, bus := s.bus ++ [.read a m] } ∧
    exec .plp s =
      .next { s with
        S := s.S + 1
        P := { C := m[0], Z := m[1], I := m[2], D := m[3], B := m[4], V := m[6], N := m[7] }
        cycles := some 4
        bus := s.bus ++ [.read a m] }

/-- PHP followed by PLP leaves the status register and S as they were. Rests on 41_stack.md R103, 10_state.md R19. -/
def Obligations.PlpAfterPhpRestoresTheStatus : Prop :=
  ∀ (s : State) (pc : Addr), ∃ t u,
    exec .php s = .next t ∧ exec .plp (t.setPC pc) = .next u ∧ u.P = s.P ∧ u.S = s.S

/-- ADC adds the operand byte and the carry to A by the adder's laws. Rests on R110. -/
def Obligations.AdcAddsWithCarry : Prop :=
  formsOf .ADC =
    [(0x61, .indirectX, 2, 6, false), (0x65, .zeroPage, 2, 3, false), (0x69, .immediate, 2, 2, false),
      (0x6D, .absolute, 3, 4, false), (0x71, .indirectY, 2, 5, true), (0x75, .zeroPageX, 2, 4, false),
      (0x79, .absoluteY, 3, 4, true), (0x7D, .absoluteX, 3, 4, true)] ∧
  ∀ (i : Instr) (s : State), i.mnemonic = .ADC → exec i s = .next (afterRead i s (added (operandByte i s) s))

/-- SBC, both opcodes of its Immediate form included, subtracts the operand byte and the borrow from A. Rests on R111,
R185. -/
def Obligations.SbcSubtractsWithBorrow : Prop :=
  formsOf .SBC =
    [(0xE1, .indirectX, 2, 6, false), (0xE5, .zeroPage, 2, 3, false), (0xE9, .immediate, 2, 2, false),
      (0xEB, .immediate, 2, 2, false), (0xED, .absolute, 3, 4, false), (0xF1, .indirectY, 2, 5, true),
      (0xF5, .zeroPageX, 2, 4, false), (0xF9, .absoluteY, 3, 4, true), (0xFD, .absoluteX, 3, 4, true)] ∧
  ∀ (i : Instr) (s : State), i.mnemonic = .SBC → exec i s = .next (afterRead i s (subtracted (operandByte i s) s))

/-- AND, ORA and EOR combine the operand byte with A bit by bit and set Z and N. Rests on R112, R113, R114. -/
def Obligations.LogicCombinesWithTheAccumulator : Prop :=
  formsOf .AND =
    [(0x21, .indirectX, 2, 6, false), (0x25, .zeroPage, 2, 3, false), (0x29, .immediate, 2, 2, false),
      (0x2D, .absolute, 3, 4, false), (0x31, .indirectY, 2, 5, true), (0x35, .zeroPageX, 2, 4, false),
      (0x39, .absoluteY, 3, 4, true), (0x3D, .absoluteX, 3, 4, true)] ∧
  formsOf .ORA =
    [(0x01, .indirectX, 2, 6, false), (0x05, .zeroPage, 2, 3, false), (0x09, .immediate, 2, 2, false),
      (0x0D, .absolute, 3, 4, false), (0x11, .indirectY, 2, 5, true), (0x15, .zeroPageX, 2, 4, false),
      (0x19, .absoluteY, 3, 4, true), (0x1D, .absoluteX, 3, 4, true)] ∧
  formsOf .EOR =
    [(0x41, .indirectX, 2, 6, false), (0x45, .zeroPage, 2, 3, false), (0x49, .immediate, 2, 2, false),
      (0x4D, .absolute, 3, 4, false), (0x51, .indirectY, 2, 5, true), (0x55, .zeroPageX, 2, 4, false),
      (0x59, .absoluteY, 3, 4, true), (0x5D, .absoluteX, 3, 4, true)] ∧
  ∀ (i : Instr) (s : State),
    let m := operandByte i s
    (i.mnemonic = .AND → exec i s = .next (afterRead i s { s with A := s.A &&& m, P := nz s.P (s.A &&& m) })) ∧
    (i.mnemonic = .ORA → exec i s = .next (afterRead i s { s with A := s.A ||| m, P := nz s.P (s.A ||| m) })) ∧
    (i.mnemonic = .EOR → exec i s = .next (afterRead i s { s with A := s.A ^^^ m, P := nz s.P (s.A ^^^ m) }))

/-- CMP, CPX and CPY set C, Z and N from the comparison and change no register. Rests on R115, R116, R117. -/
def Obligations.ComparesSetOnlyCZN : Prop :=
  formsOf .CMP =
    [(0xC1, .indirectX, 2, 6, false), (0xC5, .zeroPage, 2, 3, false), (0xC9, .immediate, 2, 2, false),
      (0xCD, .absolute, 3, 4, false), (0xD1, .indirectY, 2, 5, true), (0xD5, .zeroPageX, 2, 4, false),
      (0xD9, .absoluteY, 3, 4, true), (0xDD, .absoluteX, 3, 4, true)] ∧
  formsOf .CPX =
    [(0xE0, .immediate, 2, 2, false), (0xE4, .zeroPage, 2, 3, false), (0xEC, .absolute, 3, 4, false)] ∧
  formsOf .CPY =
    [(0xC0, .immediate, 2, 2, false), (0xC4, .zeroPage, 2, 3, false), (0xCC, .absolute, 3, 4, false)] ∧
  ∀ (i : Instr) (s : State),
    (i.mnemonic = .CMP → exec i s = .next (afterRead i s { s with P := compared s.P s.A (operandByte i s) })) ∧
    (i.mnemonic = .CPX → exec i s = .next (afterRead i s { s with P := compared s.P s.X (operandByte i s) })) ∧
    (i.mnemonic = .CPY → exec i s = .next (afterRead i s { s with P := compared s.P s.Y (operandByte i s) }))

/-- BIT sets Z from A and the memory byte, and copies bits 7 and 6 of the byte to N and V. Rests on R118. -/
def Obligations.BitTestsMemoryBits : Prop :=
  formsOf .BIT =
    [(0x24, .zeroPage, 2, 3, false), (0x2C, .absolute, 3, 4, false)] ∧
  ∀ (i : Instr) (s : State), i.mnemonic = .BIT →
    let m := operandByte i s
    exec i s = .next (afterRead i s { s with P := { s.P with Z := decide (s.A &&& m = 0), N := m[7], V := m[6] } })

/-- INC and DEC change the memory byte by one modulo 256 and set Z and N. Rests on R119, R120. -/
def Obligations.IncAndDecChangeMemoryByOne : Prop :=
  formsOf .INC =
    [(0xE6, .zeroPage, 2, 5, false), (0xEE, .absolute, 3, 6, false), (0xF6, .zeroPageX, 2, 6, false),
      (0xFE, .absoluteX, 3, 7, false)] ∧
  formsOf .DEC =
    [(0xC6, .zeroPage, 2, 5, false), (0xCE, .absolute, 3, 6, false), (0xD6, .zeroPageX, 2, 6, false),
      (0xDE, .absoluteX, 3, 7, false)] ∧
  ∀ (i : Instr) (s : State),
    (i.mnemonic = .INC →
      exec i s = .next (afterModify i s (operandByte i s + 1) { s with P := nz s.P (operandByte i s + 1) })) ∧
    (i.mnemonic = .DEC →
      exec i s = .next (afterModify i s (operandByte i s - 1) { s with P := nz s.P (operandByte i s - 1) }))

/-- INX, INY, DEX and DEY change the index register by one modulo 256 and set Z and N. Rests on R121, R122, R123, R124. -/
def Obligations.IndexRegistersCountByOne : Prop :=
  formsOf .INX =
    [(0xE8, .implied, 1, 2, false)] ∧
  formsOf .INY =
    [(0xC8, .implied, 1, 2, false)] ∧
  formsOf .DEX =
    [(0xCA, .implied, 1, 2, false)] ∧
  formsOf .DEY =
    [(0x88, .implied, 1, 2, false)] ∧
  ∀ s : State,
    exec .inx s = .next { s with X := s.X + 1, P := nz s.P (s.X + 1), cycles := some 2 } ∧
    exec .iny s = .next { s with Y := s.Y + 1, P := nz s.P (s.Y + 1), cycles := some 2 } ∧
    exec .dex s = .next { s with X := s.X - 1, P := nz s.P (s.X - 1), cycles := some 2 } ∧
    exec .dey s = .next { s with Y := s.Y - 1, P := nz s.P (s.Y - 1), cycles := some 2 }

/-- ASL, LSR, ROL and ROR move the operand by one bit through the carry, in A or in memory. Rests on R135, R136, R137,
R138. -/
def Obligations.ShiftsAndRotatesMoveOneBit : Prop :=
  formsOf .ASL =
    [(0x06, .zeroPage, 2, 5, false), (0x0A, .accumulator, 1, 2, false), (0x0E, .absolute, 3, 6, false),
      (0x16, .zeroPageX, 2, 6, false), (0x1E, .absoluteX, 3, 7, false)] ∧
  formsOf .LSR =
    [(0x46, .zeroPage, 2, 5, false), (0x4A, .accumulator, 1, 2, false), (0x4E, .absolute, 3, 6, false),
      (0x56, .zeroPageX, 2, 6, false), (0x5E, .absoluteX, 3, 7, false)] ∧
  formsOf .ROL =
    [(0x26, .zeroPage, 2, 5, false), (0x2A, .accumulator, 1, 2, false), (0x2E, .absolute, 3, 6, false),
      (0x36, .zeroPageX, 2, 6, false), (0x3E, .absoluteX, 3, 7, false)] ∧
  formsOf .ROR =
    [(0x66, .zeroPage, 2, 5, false), (0x6A, .accumulator, 1, 2, false), (0x6E, .absolute, 3, 6, false),
      (0x76, .zeroPageX, 2, 6, false), (0x7E, .absoluteX, 3, 7, false)] ∧
  ∀ (i : Instr) (s : State),
    let m := operandByte i s
    let c := s.P.C.toNat
    (i.mnemonic = .ASL → exec i s = .next (afterShift i s (BitVec.ofNat 8 (m.toNat * 2)) m[7])) ∧
    (i.mnemonic = .LSR → exec i s = .next (afterShift i s (BitVec.ofNat 8 (m.toNat / 2)) m[0])) ∧
    (i.mnemonic = .ROL → exec i s = .next (afterShift i s (BitVec.ofNat 8 (m.toNat * 2 + c)) m[7])) ∧
    (i.mnemonic = .ROR → exec i s = .next (afterShift i s (BitVec.ofNat 8 (m.toNat / 2 + c * 128)) m[0]))

/-- JMP sets PC to the word, or to the word its pointer holds with the same-page rule. Rests on R145. -/
def Obligations.JmpLoadsThePC : Prop :=
  formsOf .JMP =
    [(0x4C, .absolute, 3, 3, false), (0x6C, .indirect, 3, 5, false)] ∧
  ∀ (w : Addr) (s : State),
    let h : Addr := BitVec.ofNat 16 (w.toNat / 256 * 256 + (w.toNat % 256 + 1) % 256)
    exec (.jmpAbs w) s = .next { s with PC := w, cycles := some 3 } ∧
    exec (.jmpInd w) s =
      .next { s with
        PC := s.mem.read h ++ s.mem.read w
        cycles := some 5
        bus := s.bus ++ [.read w (s.mem.read w), .read h (s.mem.read h)] }

/-- JSR pushes the address of its own last byte, high byte first, and jumps to its operand. Rests on R146. -/
def Obligations.JsrPushesAndJumps : Prop :=
  formsOf .JSR =
    [(0x20, .absolute, 3, 6, false)] ∧
  ∀ (w : Addr) (s : State),
    let ret : Addr := s.PC - 1
    let a1 : Addr := BitVec.ofNat 16 (256 + s.S.toNat)
    let a2 : Addr := BitVec.ofNat 16 (256 + (s.S - 1).toNat)
    exec (.jsr w) s =
      .next { s with
        S := s.S - 2
        PC := w
        mem := (s.mem.write a1 (hi ret)).write a2 (lo ret)
        cycles := some 6
        bus := s.bus ++ [.write a1 (hi ret), .write a2 (lo ret)] }

/-- RTS pulls the return address, low byte first, and continues one past it. Rests on R147. -/
def Obligations.RtsPullsAndReturns : Prop :=
  formsOf .RTS =
    [(0x60, .implied, 1, 6, false)] ∧
  ∀ s : State,
    let a1 : Addr := BitVec.ofNat 16 (256 + (s.S + 1).toNat)
    let a2 : Addr := BitVec.ofNat 16 (256 + (s.S + 2).toNat)
    exec .rts s =
      .next { s with
        S := s.S + 2
        PC := (s.mem.read a2 ++ s.mem.read a1) + 1
        cycles := some 6
        bus := s.bus ++ [.read a1 (s.mem.read a1), .read a2 (s.mem.read a2)] }

/-- RTS after JSR continues at the byte after the JSR with S restored. Rests on R146, R147, 95_test_vectors.md Q12. -/
def Obligations.RtsReturnsPastTheJsr : Prop :=
  ∀ (w : Addr) (s : State) (pc : Addr), ∃ t u,
    exec (.jsr w) s = .next t ∧ exec .rts (t.setPC pc) = .next u ∧ u.PC = s.PC ∧ u.S = s.S

/-- The eight branches go to PCnext plus the displacement when their flag condition holds, else fall through. Rests on
R148, R149, R150, R151, R152, R153, R154, R155, R156. -/
def Obligations.BranchesTestOneFlag : Prop :=
  formsOf .BCC =
    [(0x90, .relative, 2, 2, false)] ∧
  formsOf .BCS =
    [(0xB0, .relative, 2, 2, false)] ∧
  formsOf .BEQ =
    [(0xF0, .relative, 2, 2, false)] ∧
  formsOf .BNE =
    [(0xD0, .relative, 2, 2, false)] ∧
  formsOf .BMI =
    [(0x30, .relative, 2, 2, false)] ∧
  formsOf .BPL =
    [(0x10, .relative, 2, 2, false)] ∧
  formsOf .BVC =
    [(0x50, .relative, 2, 2, false)] ∧
  formsOf .BVS =
    [(0x70, .relative, 2, 2, false)] ∧
  ∀ (d : Byte) (s : State),
    exec (.bcc d) s = .next (afterBranch d (!s.P.C) s) ∧
    exec (.bcs d) s = .next (afterBranch d s.P.C s) ∧
    exec (.beq d) s = .next (afterBranch d s.P.Z s) ∧
    exec (.bne d) s = .next (afterBranch d (!s.P.Z) s) ∧
    exec (.bmi d) s = .next (afterBranch d s.P.N s) ∧
    exec (.bpl d) s = .next (afterBranch d (!s.P.N) s) ∧
    exec (.bvc d) s = .next (afterBranch d (!s.P.V) s) ∧
    exec (.bvs d) s = .next (afterBranch d s.P.V s)

/-- BRK pushes the address two past its opcode and the status with bit 4 set, sets I and loads PC from the vector. Rests
on R157, R216. -/
def Obligations.BrkEntersTheHandler : Prop :=
  formsOf .BRK =
    [(0x00, .implied, 1, 7, false)] ∧
  (∀ s : State, exec .brk s = .next (afterBrk Config.machine s)) ∧
  ∀ (c : Config) (s : State.On (Platform.flat c)), execOn .brk s = .next (afterBrk c s)

/-- RTI pulls every flag and then the address, and continues there. Rests on R158. -/
def Obligations.RtiRestoresStatusAndPC : Prop :=
  formsOf .RTI =
    [(0x40, .implied, 1, 6, false)] ∧
  ∀ s : State,
    let a1 : Addr := BitVec.ofNat 16 (256 + (s.S + 1).toNat)
    let a2 : Addr := BitVec.ofNat 16 (256 + (s.S + 2).toNat)
    let a3 : Addr := BitVec.ofNat 16 (256 + (s.S + 3).toNat)
    let m := s.mem.read a1
    exec .rti s =
      .next { s with
        S := s.S + 3
        PC := s.mem.read a3 ++ s.mem.read a2
        P := { C := m[0], Z := m[1], I := m[2], D := m[3], B := m[4], V := m[6], N := m[7] }
        cycles := some 6
        bus := s.bus ++ [.read a1 m, .read a2 (s.mem.read a2), .read a3 (s.mem.read a3)] }

/-- RTI after BRK resumes two past the BRK opcode with S and every flag but Break restored. Rests on R217,
95_test_vectors.md Q13. -/
def Obligations.RtiResumesTwoPastTheBrk : Prop :=
  ∀ (s : State) (pc : Addr), ∃ t u,
    exec .brk s = .next t ∧ exec .rti (t.setPC pc) = .next u ∧ u.PC = s.PC + 1 ∧ u.S = s.S ∧ u.P = { s.P with B := true }

/-- CLC, SEC, CLI, SEI, CLD, SED and CLV write their one flag and nothing else. Rests on R170, R171, R172, R173, R174,
R175, R176. -/
def Obligations.FlagInstructionsWriteOneFlag : Prop :=
  formsOf .CLC =
    [(0x18, .implied, 1, 2, false)] ∧
  formsOf .SEC =
    [(0x38, .implied, 1, 2, false)] ∧
  formsOf .CLI =
    [(0x58, .implied, 1, 2, false)] ∧
  formsOf .SEI =
    [(0x78, .implied, 1, 2, false)] ∧
  formsOf .CLD =
    [(0xD8, .implied, 1, 2, false)] ∧
  formsOf .SED =
    [(0xF8, .implied, 1, 2, false)] ∧
  formsOf .CLV =
    [(0xB8, .implied, 1, 2, false)] ∧
  ∀ s : State,
    exec .clc s = .next { s with P := { s.P with C := false }, cycles := some 2 } ∧
    exec .sec s = .next { s with P := { s.P with C := true }, cycles := some 2 } ∧
    exec .cli s = .next { s with P := { s.P with I := false }, cycles := some 2 } ∧
    exec .sei s = .next { s with P := { s.P with I := true }, cycles := some 2 } ∧
    exec .cld s = .next { s with P := { s.P with D := false }, cycles := some 2 } ∧
    exec .sed s = .next { s with P := { s.P with D := true }, cycles := some 2 } ∧
    exec .clv s = .next { s with P := { s.P with V := false }, cycles := some 2 }

/-- Every NOP, official or not, changes no register, flag or byte of memory; its memory forms make one read. Rests on
R177, R181, R182. -/
def Obligations.NopsChangeNothing : Prop :=
  formsOf .NOP =
    [(0x04, .zeroPage, 2, 3, false), (0x0C, .absolute, 3, 4, false), (0x14, .zeroPageX, 2, 4, false),
      (0x1A, .implied, 1, 2, false), (0x1C, .absoluteX, 3, 4, true), (0x34, .zeroPageX, 2, 4, false),
      (0x3A, .implied, 1, 2, false), (0x3C, .absoluteX, 3, 4, true), (0x44, .zeroPage, 2, 3, false),
      (0x54, .zeroPageX, 2, 4, false), (0x5A, .implied, 1, 2, false), (0x5C, .absoluteX, 3, 4, true),
      (0x64, .zeroPage, 2, 3, false), (0x74, .zeroPageX, 2, 4, false), (0x7A, .implied, 1, 2, false),
      (0x7C, .absoluteX, 3, 4, true), (0x80, .immediate, 2, 2, false), (0x82, .immediate, 2, 2, false),
      (0x89, .immediate, 2, 2, false), (0xC2, .immediate, 2, 2, false), (0xD4, .zeroPageX, 2, 4, false),
      (0xDA, .implied, 1, 2, false), (0xDC, .absoluteX, 3, 4, true), (0xE2, .immediate, 2, 2, false),
      (0xEA, .implied, 1, 2, false), (0xF4, .zeroPageX, 2, 4, false), (0xFA, .implied, 1, 2, false),
      (0xFC, .absoluteX, 3, 4, true)] ∧
  ∀ (i : Instr) (s : State), i.mnemonic = .NOP → exec i s = .next (afterRead i s s)

/-- LAX loads A and X, SAX stores A AND X, LAS loads A, X and S with the byte AND S. Rests on R183, R184, R196. -/
def Obligations.LaxSaxLasCombineRegisters : Prop :=
  formsOf .LAX =
    [(0xA3, .indirectX, 2, 6, false), (0xA7, .zeroPage, 2, 3, false), (0xAF, .absolute, 3, 4, false),
      (0xB3, .indirectY, 2, 5, true), (0xB7, .zeroPageY, 2, 4, false), (0xBF, .absoluteY, 3, 4, true)] ∧
  formsOf .SAX =
    [(0x83, .indirectX, 2, 6, false), (0x87, .zeroPage, 2, 3, false), (0x8F, .absolute, 3, 4, false),
      (0x97, .zeroPageY, 2, 4, false)] ∧
  formsOf .LAS =
    [(0xBB, .absoluteY, 3, 4, true)] ∧
  ∀ (i : Instr) (s : State),
    let m := operandByte i s
    let v := m &&& s.S
    (i.mnemonic = .LAX → exec i s = .next (afterRead i s { s with A := m, X := m, P := nz s.P m })) ∧
    (i.mnemonic = .SAX → exec i s = .next (afterStore i s (s.A &&& s.X))) ∧
    (i.mnemonic = .LAS → exec i s = .next (afterRead i s { s with A := v, X := v, S := v, P := nz s.P v }))

/-- DCP decrements memory and compares A with it; ISC increments memory and subtracts it from A. Rests on R186, R187. -/
def Obligations.DcpAndIscModifyThenCombine : Prop :=
  formsOf .DCP =
    [(0xC3, .indirectX, 2, 8, false), (0xC7, .zeroPage, 2, 5, false), (0xCF, .absolute, 3, 6, false),
      (0xD3, .indirectY, 2, 8, false), (0xD7, .zeroPageX, 2, 6, false), (0xDB, .absoluteY, 3, 7, false),
      (0xDF, .absoluteX, 3, 7, false)] ∧
  formsOf .ISC =
    [(0xE3, .indirectX, 2, 8, false), (0xE7, .zeroPage, 2, 5, false), (0xEF, .absolute, 3, 6, false),
      (0xF3, .indirectY, 2, 8, false), (0xF7, .zeroPageX, 2, 6, false), (0xFB, .absoluteY, 3, 7, false),
      (0xFF, .absoluteX, 3, 7, false)] ∧
  ∀ (i : Instr) (s : State),
    let d := operandByte i s - 1
    let r := operandByte i s + 1
    (i.mnemonic = .DCP → exec i s = .next (afterModify i s d { s with P := compared s.P s.A d })) ∧
    (i.mnemonic = .ISC → exec i s = .next (afterModify i s r (subtracted r s)))

/-- SLO, RLA, SRE and RRA shift or rotate memory and combine the new byte with A. Rests on R188, R189, R190, R191. -/
def Obligations.SloRlaSreRraShiftThenCombine : Prop :=
  formsOf .SLO =
    [(0x03, .indirectX, 2, 8, false), (0x07, .zeroPage, 2, 5, false), (0x0F, .absolute, 3, 6, false),
      (0x13, .indirectY, 2, 8, false), (0x17, .zeroPageX, 2, 6, false), (0x1B, .absoluteY, 3, 7, false),
      (0x1F, .absoluteX, 3, 7, false)] ∧
  formsOf .RLA =
    [(0x23, .indirectX, 2, 8, false), (0x27, .zeroPage, 2, 5, false), (0x2F, .absolute, 3, 6, false),
      (0x33, .indirectY, 2, 8, false), (0x37, .zeroPageX, 2, 6, false), (0x3B, .absoluteY, 3, 7, false),
      (0x3F, .absoluteX, 3, 7, false)] ∧
  formsOf .SRE =
    [(0x43, .indirectX, 2, 8, false), (0x47, .zeroPage, 2, 5, false), (0x4F, .absolute, 3, 6, false),
      (0x53, .indirectY, 2, 8, false), (0x57, .zeroPageX, 2, 6, false), (0x5B, .absoluteY, 3, 7, false),
      (0x5F, .absoluteX, 3, 7, false)] ∧
  formsOf .RRA =
    [(0x63, .indirectX, 2, 8, false), (0x67, .zeroPage, 2, 5, false), (0x6F, .absolute, 3, 6, false),
      (0x73, .indirectY, 2, 8, false), (0x77, .zeroPageX, 2, 6, false), (0x7B, .absoluteY, 3, 7, false),
      (0x7F, .absoluteX, 3, 7, false)] ∧
  ∀ (i : Instr) (s : State),
    let m := operandByte i s
    let c := s.P.C.toNat
    let sl : Byte := BitVec.ofNat 8 (m.toNat * 2)
    let sr : Byte := BitVec.ofNat 8 (m.toNat / 2)
    let rl : Byte := BitVec.ofNat 8 (m.toNat * 2 + c)
    let rr : Byte := BitVec.ofNat 8 (m.toNat / 2 + c * 128)
    (i.mnemonic = .SLO →
      exec i s = .next (afterModify i s sl { s with A := s.A ||| sl, P := nz { s.P with C := m[7] } (s.A ||| sl) })) ∧
    (i.mnemonic = .RLA →
      exec i s = .next (afterModify i s rl { s with A := s.A &&& rl, P := nz { s.P with C := m[7] } (s.A &&& rl) })) ∧
    (i.mnemonic = .SRE →
      exec i s = .next (afterModify i s sr { s with A := s.A ^^^ sr, P := nz { s.P with C := m[0] } (s.A ^^^ sr) })) ∧
    (i.mnemonic = .RRA →
      exec i s = .next (afterModify i s rr (added rr { s with P := { s.P with C := m[0] } })))

/-- ANC, ALR, ARR and SBX combine A (or A AND X) with their immediate byte. Rests on R192, R193, R194, R195. -/
def Obligations.AncAlrArrSbxUseTheImmediate : Prop :=
  formsOf .ANC =
    [(0x0B, .immediate, 2, 2, false), (0x2B, .immediate, 2, 2, false)] ∧
  formsOf .ALR =
    [(0x4B, .immediate, 2, 2, false)] ∧
  formsOf .ARR =
    [(0x6B, .immediate, 2, 2, false)] ∧
  formsOf .SBX =
    [(0xCB, .immediate, 2, 2, false)] ∧
  ∀ (b : Byte) (s : State),
    let t := s.A &&& b
    let h : Byte := BitVec.ofNat 8 (t.toNat / 2)
    let r : Byte := BitVec.ofNat 8 (t.toNat / 2 + s.P.C.toNat * 128)
    let u := s.A &&& s.X
    exec (.ancImm0B b) s = .next { s with A := t, P := nz { s.P with C := t[7] } t, cycles := some 2 } ∧
    exec (.ancImm2B b) s = .next { s with A := t, P := nz { s.P with C := t[7] } t, cycles := some 2 } ∧
    exec (.alrImm b) s = .next { s with A := h, P := nz { s.P with C := t[0] } h, cycles := some 2 } ∧
    exec (.arrImm b) s = .next { s with A := r, P := nz { s.P with C := r[6], V := r[6] ^^ r[5] } r, cycles := some 2 } ∧
    exec (.sbxImm b) s =
      .next { s with X := u - b, P := nz { s.P with C := decide (b.toNat ≤ u.toNat) } (u - b), cycles := some 2 }

/-- JAM sets halted, returns no cycle count and changes nothing else; its answer is a next state by the model's choice.
Rests on R197, R211, log 2. That exec and step answer a next state for a JAM is the model's choice (log 2): R197 and
R211 give the failure outcome IllegalOpcodeHalt, which `stepOutcome` gives. -/
def Obligations.JamHaltsTheCore : Prop :=
  formsOf .JAM =
    [(0x02, .implied, 1, 0, false), (0x12, .implied, 1, 0, false), (0x22, .implied, 1, 0, false),
      (0x32, .implied, 1, 0, false), (0x42, .implied, 1, 0, false), (0x52, .implied, 1, 0, false),
      (0x62, .implied, 1, 0, false), (0x72, .implied, 1, 0, false), (0x92, .implied, 1, 0, false),
      (0xB2, .implied, 1, 0, false), (0xD2, .implied, 1, 0, false), (0xF2, .implied, 1, 0, false)] ∧
  ∀ (i : Instr) (s : State), i.mnemonic = .JAM →
    exec i s = .next { s with halted := true, cycles := none } ∧
    (s.halted = false → s.mem.read s.PC = i.opcode →
      step s = .next { s with PC := s.PC + 1, halted := true, cycles := none, bus := [.read s.PC i.opcode] } ∧
      step { s with PC := s.PC + 1, halted := true, cycles := none, bus := [.read s.PC i.opcode] } =
        .fault .steppedWhileHalted)

/-- ANE, LXA, SHA, SHX, SHY and TAS are refused with their opcode and address, and nothing changes. Rests on R198, R199,
R200, R201, R202, R203. -/
def Obligations.UnstableOpcodesAreRefused : Prop :=
  formsOf .ANE =
    [(0x8B, .immediate, 2, 2, false)] ∧
  formsOf .LXA =
    [(0xAB, .immediate, 2, 2, false)] ∧
  formsOf .SHA =
    [(0x93, .indirectY, 2, 6, false), (0x9F, .absoluteY, 3, 5, false)] ∧
  formsOf .SHX =
    [(0x9E, .absoluteY, 3, 5, false)] ∧
  formsOf .SHY =
    [(0x9C, .absoluteX, 3, 5, false)] ∧
  formsOf .TAS =
    [(0x9B, .absoluteY, 3, 5, false)] ∧
  (∀ (b : Byte) (w : Addr) (s : State),
    exec (.aneImm b) s = .refused (.unimplementedBehavior 0x8B (s.PC - 1)) ∧
    exec (.lxaImm b) s = .refused (.unimplementedBehavior 0xAB (s.PC - 1)) ∧
    exec (.shaIzy b) s = .refused (.unimplementedBehavior 0x93 (s.PC - 1)) ∧
    exec (.shaAby w) s = .refused (.unimplementedBehavior 0x9F (s.PC - 1)) ∧
    exec (.shxAby w) s = .refused (.unimplementedBehavior 0x9E (s.PC - 1)) ∧
    exec (.shyAbx w) s = .refused (.unimplementedBehavior 0x9C (s.PC - 1)) ∧
    exec (.tasAby w) s = .refused (.unimplementedBehavior 0x9B (s.PC - 1))) ∧
  ∀ s : State, s.halted = false →
    s.mem.read s.PC ∈ ([0x8B, 0xAB, 0x93, 0x9F, 0x9E, 0x9C, 0x9B] : List Byte) →
    step s = .refused (.unimplementedBehavior (s.mem.read s.PC) s.PC) ∧
    stepOutcome s =
      (.unimplementedBehavior (s.mem.read s.PC) s.PC, { s with cycles := none, bus := [.read s.PC (s.mem.read s.PC)] })

/-- Only JMP, JSR, RTS, RTI, BRK and taken branches move PC away from PCnext. Rests on R15 (the list of handlers that
overwrite PC). -/
def Obligations.OnlyControlTransfersWriteThePC : Prop :=
  ∀ (i : Instr) (s t : State), exec i s = .next t →
    i.mnemonic ∉ ([.JMP, .JSR, .RTS, .RTI, .BRK] : List Mnemonic) → branchTaken i.mnemonic s.P = false → t.PC = s.PC

/-- Every flag is unchanged by every instruction that the flag table does not list as its writer. Rests on R20, R21 (its
table). -/
def Obligations.FlagsChangeOnlyWhereTheTableSays : Prop :=
  ∀ (i : Instr) (s t : State), exec i s = .next t →
    (i.mnemonic ∉ nzWriters → t.P.Z = s.P.Z ∧ t.P.N = s.P.N) ∧
    (i.mnemonic ∉ cWriters → t.P.C = s.P.C) ∧
    (i.mnemonic ∉ vWriters → t.P.V = s.P.V) ∧
    (i.mnemonic ∉ ([.CLI, .SEI, .BRK, .PLP, .RTI] : List Mnemonic) → t.P.I = s.P.I) ∧
    (i.mnemonic ∉ ([.CLD, .SED, .PLP, .RTI] : List Mnemonic) → t.P.D = s.P.D) ∧
    (i.mnemonic ∉ ([.PLP, .RTI] : List Mnemonic) → t.P.B = s.P.B) ∧
    (i.mnemonic = .BRK ∨ i.mnemonic = .SEI → t.P.I = true) ∧ (i.mnemonic = .CLI → t.P.I = false) ∧
    (i.mnemonic = .SED → t.P.D = true) ∧ (i.mnemonic = .CLD → t.P.D = false) ∧
    (i.mnemonic = .SEC → t.P.C = true) ∧ (i.mnemonic = .CLC → t.P.C = false) ∧
    (i.mnemonic = .CLV → t.P.V = false)

/-- A, X, Y, S and halted are unchanged by every instruction that the spec does not list as a writer. Rests on R10, R11,
R12, R13, R22. -/
def Obligations.RegistersChangeOnlyByTheirWriters : Prop :=
  ∀ (i : Instr) (s t : State), exec i s = .next t →
    (i.mnemonic ∉ ([.LDA, .TXA, .TYA, .PLA, .ADC, .SBC, .AND, .ORA, .EOR, .LAX, .SLO, .RLA, .SRE, .RRA, .ISC, .ANC, .ALR, .ARR,
        .LAS] : List Mnemonic) → i.operand ≠ .accumulator → t.A = s.A) ∧
    (i.mnemonic ∉ ([.LDX, .TAX, .TSX, .INX, .DEX, .LAX, .SBX, .LAS] : List Mnemonic) → t.X = s.X) ∧
    (i.mnemonic ∉ ([.LDY, .TAY, .INY, .DEY] : List Mnemonic) → t.Y = s.Y) ∧
    (i.mnemonic ∉ ([.PHA, .PHP, .PLA, .PLP, .JSR, .RTS, .BRK, .RTI, .TXS, .LAS] : List Mnemonic) → t.S = s.S) ∧
    (i.mnemonic ≠ .JAM → t.halted = s.halted) ∧ (i.mnemonic = .JAM → t.halted = true)

/-- Every byte of memory is unchanged but the one at ea, or the pushed ones, of an instruction that stores. Rests on
R38, R43, R72, R134. -/
def Obligations.MemoryChangesOnlyWhereStored : Prop :=
  ∀ (i : Instr) (s t : State) (a : Addr), exec i s = .next t →
    (i.mnemonic ∉ eaWriters → i.mnemonic ∉ pushers → t.mem.read a = s.mem.read a) ∧
    (i.operand = .accumulator → t.mem.read a = s.mem.read a) ∧
    (i.mnemonic ∈ eaWriters → a ≠ ea i s → t.mem.read a = s.mem.read a) ∧
    (i.mnemonic ∈ pushers → a ≠ stackAddr s.S → a ≠ stackAddr (s.S - 1) → a ≠ stackAddr (s.S - 2) →
      t.mem.read a = s.mem.read a) ∧
    (i.mnemonic = .PHA ∨ i.mnemonic = .PHP → a ≠ stackAddr s.S → t.mem.read a = s.mem.read a) ∧
    (i.mnemonic = .JSR → a ≠ stackAddr s.S → a ≠ stackAddr (s.S - 1) → t.mem.read a = s.mem.read a)

/-- The cycle count of every completed instruction is its base cost plus the page or branch penalty, 2 to 8. Rests on
R68. -/
def Obligations.CyclesAreBasePlusPenalty : Prop :=
  ∀ (i : Instr) (s t : State), exec i s = .next t → i.mnemonic ≠ .JAM →
    ∃ n, t.cycles = some n ∧ n.toNat = i.descriptor.baseCycles + penaltyOf i s ∧ 2 ≤ n.toNat ∧ n.toNat ≤ 8

/-- Every instruction but the seven unstable ones answers a next state in every state; none faults. Rests on R70, R214,
R215, log 2. That the 12 JAM rows are among them is the model's choice (log 2): the spec ends a JAM with
IllegalOpcodeHalt, and `exec` answers the state it leaves. -/
def Obligations.OnlyUnstableOpcodesDoNotComplete : Prop :=
  ∀ (i : Instr) (s : State), i.descriptor.cls ≠ .unimplemented → ∃ t, exec i s = .next t

/-- Every successful step, and so every run of them, keeps the invariant and leaves the core running. Rests on R211,
R222, log 1, log 2, log 3. The invariant (canonical memory, log 1; no cycle count in a halted core, log 3) and the
leaving of a JAM out of the successful steps by its missing cycle count (log 2) are the model's choices. -/
def Obligations.SuccessfulRunsKeepTheInvariantAndNeverHalt : Prop :=
  (∀ (s t : State) (n : CycleCount), s.Inv → s.halted = false → SuccessfulStep s n t → t.Inv ∧ t.halted = false) ∧
  ∀ s t : State, SuccessfulRun s t → s.Inv → s.halted = false → t.Inv ∧ t.halted = false
end

