-- ==== Sys2Proof/Laws/AnyPlatform.lean ====
section
/-! SUPPORT. What fetching and executing can do on any platform, said once: they call the bus, and they change registers. A
property of the bus state and the recorded calls that each call keeps is kept by an instruction and by a fetch. -/

namespace Sys2Proof.Machine

open Sys2Proof

variable {β : Type} {M : Platform β}

/-- A property that bus calls keep and that looks at nothing but the bus state and the recorded calls. -/
structure KeptByCalls (P : State.On M → Prop) : Prop where
  read : ∀ (a : Addr) (s : State.On M), P s → P (s.busRead a).2
  write : ∀ (a : Addr) (v : Byte) (s : State.On M), P s → P (s.busWrite a v)
  registers : ∀ {s t : State.On M}, t.bus = s.bus → t.mem = s.mem → P s → P t

namespace KeptByCalls

variable {P : State.On M → Prop} {s t : State.On M} (hP : KeptByCalls P)

include hP

theorem readPair (la ha : Addr) (h : P s) : P (s.readPair la ha).2 := hP.read _ _ (hP.read _ _ h)

theorem push (v : Byte) (h : P s) : P (s.push v) :=
  hP.registers (s := s.busWrite (stackAddr s.S) v) rfl rfl (hP.write _ _ _ h)

theorem pull (h : P s) : P s.pull.2 := hP.read _ _ (hP.registers (s := s) rfl rfl h)

theorem push16 (w : Addr) (h : P s) : P (s.push16 w) := hP.push _ (hP.push _ h)

theorem pull16 (h : P s) : P s.pull16.2 := hP.pull (hP.pull h)

theorem takeTrap (ret : Addr) (h : P s) : P (s.takeTrap ret) := by
  unfold State.On.takeTrap
  exact hP.registers (s := (State.On.read16 _ _).2) rfl rfl
    (hP.readPair _ _ (hP.registers (s := (s.push16 ret).push _) rfl rfl (hP.push _ (hP.push16 _ h))))

theorem returnFromTrap (h : P s) : P s.returnFromTrap := by
  unfold State.On.returnFromTrap
  exact hP.registers (s := (State.On.pull16 _).2) rfl rfl (hP.pull16 (hP.registers (s := s.pull.2) rfl rfl (hP.pull h)))

theorem pullA (h : P s) : P (pullA s) := hP.registers (s := s.pull.2) rfl rfl (hP.pull h)
theorem pullP (h : P s) : P (pullP s) := hP.registers (s := s.pull.2) rfl rfl (hP.pull h)
theorem returnFromCall (h : P s) : P (returnFromCall s) := hP.registers (s := s.pull16.2) rfl rfl (hP.pull16 h)
theorem callTo (a : Addr) (h : P s) : P (callTo a s) := hP.registers (s := s.push16 _) rfl rfl (hP.push16 _ h)

theorem resolve (o : Operand) (h : P s) : P (resolve o s).2 := by
  cases o <;> first | exact h | exact hP.readPair _ _ h

theorem readOperand (e : EffectiveOperand) (h : P s) : P (readOperand e s).2 := by
  cases e <;> first | exact h | exact hP.read _ _ h

theorem writeOperand (e : EffectiveOperand) (v : Byte) (h : P s) : P (writeOperand e v s) := by
  cases e with
  | none => exact hP.registers (s := s) rfl rfl h
  | value b => exact h
  | address a => exact hP.write _ _ _ h

theorem retire {op : Byte} {p : Nat} (h : P s) (he : retire op p s = .next t) : P t := by
  cases he
  exact hP.registers (s := s) rfl rfl h

theorem readForm {op : Byte} {o : Operand} {f : Byte → State.On M → State.On M} (hf : ∀ m s, P s → P (f m s)) (h : P s)
    (he : readForm op o f s = .next t) : P t :=
  hP.retire (hf _ _ (hP.readOperand _ (hP.resolve o h))) he

theorem storeForm {op : Byte} {o : Operand} {v : State.On M → Byte} (h : P s) (he : storeForm op o v s = .next t) : P t :=
  hP.retire (hP.writeOperand _ _ (hP.resolve o h)) he

theorem rmwForm {op : Byte} {o : Operand} {f : Byte → Status → Byte × Status} {g : Byte → State.On M → State.On M}
    (hg : ∀ m s, P s → P (g m s)) (h : P s) (he : rmwForm op o f g s = .next t) : P t := by
  refine hP.retire ?_ he
  refine hg _ _ (hP.writeOperand _ _ ?_)
  exact hP.registers (s := (Machine.readOperand _ _).2) rfl rfl (hP.readOperand _ (hP.resolve o h))

theorem impliedForm {op : Byte} {f : State.On M → State.On M} (hf : ∀ s, P s → P (f s)) (h : P s)
    (he : impliedForm op f s = .next t) : P t :=
  hP.retire (hf _ h) he

theorem jumpForm {op : Byte} {o : Operand} {f : Addr → State.On M → State.On M} (hf : ∀ a s, P s → P (f a s)) (h : P s)
    (he : jumpForm op o f s = .next t) : P t :=
  hP.retire (hf _ _ (hP.resolve o h)) he

theorem branchForm {op d : Byte} {c : Status → Bool} (h : P s) (he : branchForm op d c s = .next t) : P t :=
  hP.retire (hP.registers (s := s) (by split <;> rfl) (by split <;> rfl) h) he

theorem haltForm (h : P s) (he : haltForm s = .next t) : P t := by
  cases he
  exact hP.registers (s := s) rfl rfl h

/-- Every instruction keeps the property. -/
theorem execOn {i : Instr} (h : P s) (he : execOn i s = .next t) : P t := by
  have hregs : ∀ {u v : State.On M}, v.bus = u.bus → v.mem = u.mem → P u → P v := hP.registers
  unfold Machine.execOn at he
  cases hk : i.mnemonic <;> rw [hk] at he <;> dsimp only at he
  case STA | STX | STY | SAX => exact hP.storeForm h he
  case BCC | BCS | BEQ | BNE | BMI | BPL | BVC | BVS => exact hP.branchForm h he
  case JAM => exact hP.haltForm h he
  case ANE | LXA | SHA | SHX | SHY | TAS => cases he
  case JSR =>
    refine hP.jumpForm ?_ h he
    exact fun _ _ hu => hP.callTo _ hu
  case JMP =>
    refine hP.jumpForm ?_ h he
    exact fun _ u hu => hregs (u := u) rfl rfl hu
  case BRK =>
    refine hP.impliedForm ?_ h he
    exact fun _ hu => hP.takeTrap _ hu
  case RTI =>
    refine hP.impliedForm ?_ h he
    exact fun _ hu => hP.returnFromTrap hu
  case RTS =>
    refine hP.impliedForm ?_ h he
    exact fun _ hu => hP.returnFromCall hu
  case PHA | PHP =>
    refine hP.impliedForm ?_ h he
    exact fun _ hu => hP.push _ hu
  case PLA =>
    refine hP.impliedForm ?_ h he
    exact fun _ hu => hP.pullA hu
  case PLP =>
    refine hP.impliedForm ?_ h he
    exact fun _ hu => hP.pullP hu
  case INC | DEC | ASL | LSR | ROL | ROR | DCP | ISC | SLO | RLA | SRE | RRA =>
    refine hP.rmwForm ?_ h he
    exact fun _ u hu => hregs (u := u) rfl rfl hu
  case TAX | TAY | TXA | TYA | TSX | TXS | INX | INY | DEX | DEY | CLC | SEC | CLI | SEI | CLD | SED | CLV =>
    refine hP.impliedForm ?_ h he
    exact fun u hu => hregs (u := u) rfl rfl hu
  all_goals
    refine hP.readForm ?_ h he
    exact fun _ u hu => hregs (u := u) rfl rfl hu

theorem fetchByte (h : P s) : P s.fetchByte.2 := hP.registers (s := (s.busRead s.PC).2) rfl rfl (hP.read _ _ h)

/-- Fetching keeps the property, from the empty record of calls on. -/
theorem fetch (h : P (s.setBus [])) : P s.fetch.2 := by
  unfold State.On.fetch
  dsimp only
  split
  · exact hP.fetchByte (hP.fetchByte h)
  · exact hP.fetchByte (hP.fetchByte (hP.fetchByte h))
  · exact hP.fetchByte h

/-- Reset keeps the property, from the empty record of calls on. -/
theorem resetWith (c : Config) (h : P (s.setBus [])) : P (s.resetWith c) := by
  unfold State.On.resetWith
  exact hP.registers (s := (State.On.read16 _ _).2) rfl rfl (hP.readPair _ _ (hP.registers (s := s.setBus []) rfl rfl h))

end KeptByCalls

end Sys2Proof.Machine
end

