-- ==== Sys2Proof/Laws/Word.lean ====
section
/-! SUPPORT. The byte and address helpers in numbers: the parts of a word, a word from its parts, the extensions, the stack
addresses and the page test. -/

namespace Sys2Proof

theorem lo_toNat (w : Addr) : (lo w).toNat = w.toNat % 256 := by simp [lo]

theorem hi_toNat (w : Addr) : (hi w).toNat = w.toNat / 256 := by
  have h := w.isLt
  simp only [hi, BitVec.toNat_setWidth, BitVec.toNat_ushiftRight, Nat.shiftRight_eq_div_pow]
  omega

theorem word16_toNat (h l : Byte) : (word16 h l).toNat = h.toNat * 256 + l.toNat := by
  have hl := l.isLt
  simp only [word16, BitVec.toNat_append]
  rw [Nat.shiftLeft_eq, Nat.mul_comm, ← Nat.two_pow_add_eq_or_of_lt hl]

theorem zext16_toNat (b : Byte) : (zext16 b).toNat = b.toNat := by
  have h := b.isLt
  simp only [zext16, BitVec.toNat_setWidth]
  omega

@[simp] theorem lo_word16 (h l : Byte) : lo (word16 h l) = l := by
  apply BitVec.eq_of_toNat_eq
  rw [lo_toNat, word16_toNat]
  have := l.isLt
  omega

@[simp] theorem hi_word16 (h l : Byte) : hi (word16 h l) = h := by
  apply BitVec.eq_of_toNat_eq
  rw [hi_toNat, word16_toNat]
  have := l.isLt
  omega

@[simp] theorem word16_hi_lo (w : Addr) : word16 (hi w) (lo w) = w := by
  apply BitVec.eq_of_toNat_eq
  rw [word16_toNat, lo_toNat, hi_toNat]
  omega

/-- The two's-complement reading is kept by the sign extension. -/
theorem sext16_toInt (d : Byte) : (sext16 d).toInt = d.toInt := by
  simp [sext16, BitVec.toInt_signExtend_of_le]

namespace Machine

theorem stackAddr_toNat (p : Byte) : (stackAddr p).toNat = 256 + p.toNat := by
  rw [stackAddr, word16_toNat]
  rfl

/-- Different stack pointers name different addresses. -/
@[simp] theorem stackAddr_inj (p q : Byte) : stackAddr p = stackAddr q ↔ p = q := by
  refine ⟨fun h => BitVec.eq_of_toNat_eq ?_, fun h => h ▸ rfl⟩
  have := congrArg BitVec.toNat h
  rw [stackAddr_toNat, stackAddr_toNat] at this
  omega

/-- The page test in numbers. -/
theorem differentPage_eq (a b : Addr) : differentPage a b = decide (a.toNat / 256 ≠ b.toNat / 256) := by
  rw [← hi_toNat, ← hi_toNat, differentPage, bne, Bool.eq_iff_iff]
  simp [BitVec.toNat_inj]

end Machine

end Sys2Proof
end

