-- ==== Sys2Proof/Laws/Decode.lean ====
section
/-! SUPPORT. The instruction read from an opcode byte is one of that opcode's row, whatever its operand bytes are. -/

namespace Sys2Proof

theorem instrRow0_opcode (l : Nat) (hl : l < 16) (b : Byte) (w : Addr) :
    (instrRow0 l b w).opcode = BitVec.ofNat 8 (0 + l) := by
  interval_cases l <;> rfl

theorem instrRow1_opcode (l : Nat) (hl : l < 16) (b : Byte) (w : Addr) :
    (instrRow1 l b w).opcode = BitVec.ofNat 8 (16 + l) := by
  interval_cases l <;> rfl

theorem instrRow2_opcode (l : Nat) (hl : l < 16) (b : Byte) (w : Addr) :
    (instrRow2 l b w).opcode = BitVec.ofNat 8 (32 + l) := by
  interval_cases l <;> rfl

theorem instrRow3_opcode (l : Nat) (hl : l < 16) (b : Byte) (w : Addr) :
    (instrRow3 l b w).opcode = BitVec.ofNat 8 (48 + l) := by
  interval_cases l <;> rfl

theorem instrRow4_opcode (l : Nat) (hl : l < 16) (b : Byte) (w : Addr) :
    (instrRow4 l b w).opcode = BitVec.ofNat 8 (64 + l) := by
  interval_cases l <;> rfl

theorem instrRow5_opcode (l : Nat) (hl : l < 16) (b : Byte) (w : Addr) :
    (instrRow5 l b w).opcode = BitVec.ofNat 8 (80 + l) := by
  interval_cases l <;> rfl

theorem instrRow6_opcode (l : Nat) (hl : l < 16) (b : Byte) (w : Addr) :
    (instrRow6 l b w).opcode = BitVec.ofNat 8 (96 + l) := by
  interval_cases l <;> rfl

theorem instrRow7_opcode (l : Nat) (hl : l < 16) (b : Byte) (w : Addr) :
    (instrRow7 l b w).opcode = BitVec.ofNat 8 (112 + l) := by
  interval_cases l <;> rfl

theorem instrRow8_opcode (l : Nat) (hl : l < 16) (b : Byte) (w : Addr) :
    (instrRow8 l b w).opcode = BitVec.ofNat 8 (128 + l) := by
  interval_cases l <;> rfl

theorem instrRow9_opcode (l : Nat) (hl : l < 16) (b : Byte) (w : Addr) :
    (instrRow9 l b w).opcode = BitVec.ofNat 8 (144 + l) := by
  interval_cases l <;> rfl

theorem instrRowA_opcode (l : Nat) (hl : l < 16) (b : Byte) (w : Addr) :
    (instrRowA l b w).opcode = BitVec.ofNat 8 (160 + l) := by
  interval_cases l <;> rfl

theorem instrRowB_opcode (l : Nat) (hl : l < 16) (b : Byte) (w : Addr) :
    (instrRowB l b w).opcode = BitVec.ofNat 8 (176 + l) := by
  interval_cases l <;> rfl

theorem instrRowC_opcode (l : Nat) (hl : l < 16) (b : Byte) (w : Addr) :
    (instrRowC l b w).opcode = BitVec.ofNat 8 (192 + l) := by
  interval_cases l <;> rfl

theorem instrRowD_opcode (l : Nat) (hl : l < 16) (b : Byte) (w : Addr) :
    (instrRowD l b w).opcode = BitVec.ofNat 8 (208 + l) := by
  interval_cases l <;> rfl

theorem instrRowE_opcode (l : Nat) (hl : l < 16) (b : Byte) (w : Addr) :
    (instrRowE l b w).opcode = BitVec.ofNat 8 (224 + l) := by
  interval_cases l <;> rfl

theorem instrRowF_opcode (l : Nat) (hl : l < 16) (b : Byte) (w : Addr) :
    (instrRowF l b w).opcode = BitVec.ofNat 8 (240 + l) := by
  interval_cases l <;> rfl

/-- The operand bytes of an instruction of length `n`. -/
def operandBytes (n : Nat) (b1 b2 : Byte) : List Byte :=
  match n with
  | 2 => [b1]
  | 3 => [b1, b2]
  | _ => []

theorem instrRow0_bytes (l : Nat) (hl : l < 16) (b : Byte) (w : Addr) :
    (instrRow0 l b w).operand.bytes =
      (if (lookup (BitVec.ofNat 8 (0 + l))).length = 3 then [lo w, hi w]
      else operandBytes (lookup (BitVec.ofNat 8 (0 + l))).length b 0) := by
  interval_cases l <;> rfl

theorem instrRow1_bytes (l : Nat) (hl : l < 16) (b : Byte) (w : Addr) :
    (instrRow1 l b w).operand.bytes =
      (if (lookup (BitVec.ofNat 8 (16 + l))).length = 3 then [lo w, hi w]
      else operandBytes (lookup (BitVec.ofNat 8 (16 + l))).length b 0) := by
  interval_cases l <;> rfl

theorem instrRow2_bytes (l : Nat) (hl : l < 16) (b : Byte) (w : Addr) :
    (instrRow2 l b w).operand.bytes =
      (if (lookup (BitVec.ofNat 8 (32 + l))).length = 3 then [lo w, hi w]
      else operandBytes (lookup (BitVec.ofNat 8 (32 + l))).length b 0) := by
  interval_cases l <;> rfl

theorem instrRow3_bytes (l : Nat) (hl : l < 16) (b : Byte) (w : Addr) :
    (instrRow3 l b w).operand.bytes =
      (if (lookup (BitVec.ofNat 8 (48 + l))).length = 3 then [lo w, hi w]
      else operandBytes (lookup (BitVec.ofNat 8 (48 + l))).length b 0) := by
  interval_cases l <;> rfl

theorem instrRow4_bytes (l : Nat) (hl : l < 16) (b : Byte) (w : Addr) :
    (instrRow4 l b w).operand.bytes =
      (if (lookup (BitVec.ofNat 8 (64 + l))).length = 3 then [lo w, hi w]
      else operandBytes (lookup (BitVec.ofNat 8 (64 + l))).length b 0) := by
  interval_cases l <;> rfl

theorem instrRow5_bytes (l : Nat) (hl : l < 16) (b : Byte) (w : Addr) :
    (instrRow5 l b w).operand.bytes =
      (if (lookup (BitVec.ofNat 8 (80 + l))).length = 3 then [lo w, hi w]
      else operandBytes (lookup (BitVec.ofNat 8 (80 + l))).length b 0) := by
  interval_cases l <;> rfl

theorem instrRow6_bytes (l : Nat) (hl : l < 16) (b : Byte) (w : Addr) :
    (instrRow6 l b w).operand.bytes =
      (if (lookup (BitVec.ofNat 8 (96 + l))).length = 3 then [lo w, hi w]
      else operandBytes (lookup (BitVec.ofNat 8 (96 + l))).length b 0) := by
  interval_cases l <;> rfl

theorem instrRow7_bytes (l : Nat) (hl : l < 16) (b : Byte) (w : Addr) :
    (instrRow7 l b w).operand.bytes =
      (if (lookup (BitVec.ofNat 8 (112 + l))).length = 3 then [lo w, hi w]
      else operandBytes (lookup (BitVec.ofNat 8 (112 + l))).length b 0) := by
  interval_cases l <;> rfl

theorem instrRow8_bytes (l : Nat) (hl : l < 16) (b : Byte) (w : Addr) :
    (instrRow8 l b w).operand.bytes =
      (if (lookup (BitVec.ofNat 8 (128 + l))).length = 3 then [lo w, hi w]
      else operandBytes (lookup (BitVec.ofNat 8 (128 + l))).length b 0) := by
  interval_cases l <;> rfl

theorem instrRow9_bytes (l : Nat) (hl : l < 16) (b : Byte) (w : Addr) :
    (instrRow9 l b w).operand.bytes =
      (if (lookup (BitVec.ofNat 8 (144 + l))).length = 3 then [lo w, hi w]
      else operandBytes (lookup (BitVec.ofNat 8 (144 + l))).length b 0) := by
  interval_cases l <;> rfl

theorem instrRowA_bytes (l : Nat) (hl : l < 16) (b : Byte) (w : Addr) :
    (instrRowA l b w).operand.bytes =
      (if (lookup (BitVec.ofNat 8 (160 + l))).length = 3 then [lo w, hi w]
      else operandBytes (lookup (BitVec.ofNat 8 (160 + l))).length b 0) := by
  interval_cases l <;> rfl

theorem instrRowB_bytes (l : Nat) (hl : l < 16) (b : Byte) (w : Addr) :
    (instrRowB l b w).operand.bytes =
      (if (lookup (BitVec.ofNat 8 (176 + l))).length = 3 then [lo w, hi w]
      else operandBytes (lookup (BitVec.ofNat 8 (176 + l))).length b 0) := by
  interval_cases l <;> rfl

theorem instrRowC_bytes (l : Nat) (hl : l < 16) (b : Byte) (w : Addr) :
    (instrRowC l b w).operand.bytes =
      (if (lookup (BitVec.ofNat 8 (192 + l))).length = 3 then [lo w, hi w]
      else operandBytes (lookup (BitVec.ofNat 8 (192 + l))).length b 0) := by
  interval_cases l <;> rfl

theorem instrRowD_bytes (l : Nat) (hl : l < 16) (b : Byte) (w : Addr) :
    (instrRowD l b w).operand.bytes =
      (if (lookup (BitVec.ofNat 8 (208 + l))).length = 3 then [lo w, hi w]
      else operandBytes (lookup (BitVec.ofNat 8 (208 + l))).length b 0) := by
  interval_cases l <;> rfl

theorem instrRowE_bytes (l : Nat) (hl : l < 16) (b : Byte) (w : Addr) :
    (instrRowE l b w).operand.bytes =
      (if (lookup (BitVec.ofNat 8 (224 + l))).length = 3 then [lo w, hi w]
      else operandBytes (lookup (BitVec.ofNat 8 (224 + l))).length b 0) := by
  interval_cases l <;> rfl

theorem instrRowF_bytes (l : Nat) (hl : l < 16) (b : Byte) (w : Addr) :
    (instrRowF l b w).operand.bytes =
      (if (lookup (BitVec.ofNat 8 (240 + l))).length = 3 then [lo w, hi w]
      else operandBytes (lookup (BitVec.ofNat 8 (240 + l))).length b 0) := by
  interval_cases l <;> rfl

/-- The decoder keeps the opcode byte (R51). -/
theorem instrOf_opcode (op b1 b2 : Byte) : (instrOf op b1 b2).opcode = op := by
  have hop := op.isLt
  have hl : op.toNat % 16 < 16 := Nat.mod_lt _ (by decide)
  have hr : op.toNat / 16 < 16 := by omega
  have he : ∀ r, op.toNat / 16 = r → BitVec.ofNat 8 (16 * r + op.toNat % 16) = op := by
    intro r h
    apply BitVec.eq_of_toNat_eq
    rw [BitVec.toNat_ofNat]
    omega
  unfold instrOf
  generalize hq : op.toNat / 16 = r at hr
  interval_cases r
  · exact (instrRow0_opcode _ hl _ _).trans (he 0 hq)
  · exact (instrRow1_opcode _ hl _ _).trans (he 1 hq)
  · exact (instrRow2_opcode _ hl _ _).trans (he 2 hq)
  · exact (instrRow3_opcode _ hl _ _).trans (he 3 hq)
  · exact (instrRow4_opcode _ hl _ _).trans (he 4 hq)
  · exact (instrRow5_opcode _ hl _ _).trans (he 5 hq)
  · exact (instrRow6_opcode _ hl _ _).trans (he 6 hq)
  · exact (instrRow7_opcode _ hl _ _).trans (he 7 hq)
  · exact (instrRow8_opcode _ hl _ _).trans (he 8 hq)
  · exact (instrRow9_opcode _ hl _ _).trans (he 9 hq)
  · exact (instrRowA_opcode _ hl _ _).trans (he 10 hq)
  · exact (instrRowB_opcode _ hl _ _).trans (he 11 hq)
  · exact (instrRowC_opcode _ hl _ _).trans (he 12 hq)
  · exact (instrRowD_opcode _ hl _ _).trans (he 13 hq)
  · exact (instrRowE_opcode _ hl _ _).trans (he 14 hq)
  · exact (instrRowF_opcode _ hl _ _).trans (he 15 hq)

/-- The decoder keeps the operand bytes the instruction has (R51). -/
theorem instrOf_bytes (op b1 b2 : Byte) :
    (instrOf op b1 b2).operand.bytes = operandBytes (lookup op).length b1 b2 := by
  have hop := op.isLt
  have hl : op.toNat % 16 < 16 := Nat.mod_lt _ (by decide)
  have hr : op.toNat / 16 < 16 := by omega
  have he : ∀ r, op.toNat / 16 = r → BitVec.ofNat 8 (16 * r + op.toNat % 16) = op := by
    intro r h
    apply BitVec.eq_of_toNat_eq
    rw [BitVec.toNat_ofNat]
    omega
  have hb :
      (if (lookup op).length = 3 then [lo (word16 b2 b1), hi (word16 b2 b1)] else operandBytes (lookup op).length b1 0) =
        operandBytes (lookup op).length b1 b2 := by
    rw [lo_word16, hi_word16]
    split
    · rename_i h
      rw [h]
      rfl
    · rename_i h
      unfold operandBytes
      split
      · rfl
      · exact absurd (by assumption) h
      · rfl
  rw [← hb]
  unfold instrOf
  generalize hq : op.toNat / 16 = r at hr
  interval_cases r
  · simpa only [he 0 hq] using instrRow0_bytes (op.toNat % 16) hl b1 (word16 b2 b1)
  · simpa only [he 1 hq] using instrRow1_bytes (op.toNat % 16) hl b1 (word16 b2 b1)
  · simpa only [he 2 hq] using instrRow2_bytes (op.toNat % 16) hl b1 (word16 b2 b1)
  · simpa only [he 3 hq] using instrRow3_bytes (op.toNat % 16) hl b1 (word16 b2 b1)
  · simpa only [he 4 hq] using instrRow4_bytes (op.toNat % 16) hl b1 (word16 b2 b1)
  · simpa only [he 5 hq] using instrRow5_bytes (op.toNat % 16) hl b1 (word16 b2 b1)
  · simpa only [he 6 hq] using instrRow6_bytes (op.toNat % 16) hl b1 (word16 b2 b1)
  · simpa only [he 7 hq] using instrRow7_bytes (op.toNat % 16) hl b1 (word16 b2 b1)
  · simpa only [he 8 hq] using instrRow8_bytes (op.toNat % 16) hl b1 (word16 b2 b1)
  · simpa only [he 9 hq] using instrRow9_bytes (op.toNat % 16) hl b1 (word16 b2 b1)
  · simpa only [he 10 hq] using instrRowA_bytes (op.toNat % 16) hl b1 (word16 b2 b1)
  · simpa only [he 11 hq] using instrRowB_bytes (op.toNat % 16) hl b1 (word16 b2 b1)
  · simpa only [he 12 hq] using instrRowC_bytes (op.toNat % 16) hl b1 (word16 b2 b1)
  · simpa only [he 13 hq] using instrRowD_bytes (op.toNat % 16) hl b1 (word16 b2 b1)
  · simpa only [he 14 hq] using instrRowE_bytes (op.toNat % 16) hl b1 (word16 b2 b1)
  · simpa only [he 15 hq] using instrRowF_bytes (op.toNat % 16) hl b1 (word16 b2 b1)

/-- The row of the decoded instruction is the row of its opcode byte. -/
theorem instrOf_descriptor (op b1 b2 : Byte) : (instrOf op b1 b2).descriptor = lookup op := by
  rw [Instr.descriptor, instrOf_opcode]

/-- An operand is its mode and its bytes (R51, R53). -/
theorem Operand.ext_bytes {o p : Operand} (hm : o.mode = p.mode) (hb : o.bytes = p.bytes) : o = p := by
  have hw : ∀ v w : Addr, lo v = lo w → hi v = hi w → v = w := fun v w hl hh => by
    rw [← word16_hi_lo v, ← word16_hi_lo w, hl, hh]
  cases o <;> cases p <;> simp_all [Operand.mode, Operand.bytes] <;> exact hw _ _ hb.1 hb.2

namespace Machine

theorem instrAt_opcode (s : State) : (instrAt s).opcode = s.mem.read s.PC := instrOf_opcode _ _ _

theorem instrAt_descriptor (s : State) : (instrAt s).descriptor = lookup (s.mem.read s.PC) := instrOf_descriptor _ _ _

end Machine

end Sys2Proof
end

