-- ==== Sys2Proof/Laws/Memory.lean ====
section
/-! SUPPORT. The memory of R49: what a read gives after each operation, and that every operation keeps the canonical
form. -/

namespace Sys2Proof.Machine

open Sys2Proof

namespace Memory

@[simp] theorem read_nil (a : Addr) : Memory.read [] a = unlistedByte := rfl

/-! ### Reading after an operation -/

theorem read_unlist_same (m : Memory) (a : Addr) : (m.unlist a.toNat).read a = unlistedByte := by
  induction m with
  | nil => rfl
  | cons c m ih =>
    by_cases h : c.1 = a.toNat
    · simpa [Memory.unlist, h] using ih
    · simpa [Memory.unlist, Memory.read, h] using ih

theorem read_unlist_other (m : Memory) {k : Nat} {b : Addr} (h : b.toNat ≠ k) : (m.unlist k).read b = m.read b := by
  induction m with
  | nil => rfl
  | cons c m ih =>
    by_cases hk : c.1 = k
    · have hb : c.1 ≠ b.toNat := fun e => h (e ▸ hk)
      simpa [Memory.unlist, Memory.read, hk, Ne.symm h] using ih
    · by_cases hb : c.1 = b.toNat
      · simp [Memory.unlist, Memory.read, hb, h]
      · simpa [Memory.unlist, Memory.read, hk, hb] using ih

theorem read_place_other (m : Memory) {k : Nat} {b : Addr} (v : Byte) (h : b.toNat ≠ k) :
    (Memory.place k v m).read b = m.read b := by
  induction m with
  | nil => simp [Memory.place, Memory.read, Ne.symm h]
  | cons c m ih =>
    by_cases hk : k < c.1
    · simp [Memory.place, Memory.read, hk, Ne.symm h]
    · rw [Memory.place, if_neg hk, Memory.read, Memory.read, ih]

theorem read_place_same (m : Memory) (a : Addr) (v : Byte) (h : ∀ c ∈ m, c.1 ≠ a.toNat) :
    (Memory.place a.toNat v m).read a = v := by
  induction m with
  | nil => simp [Memory.place, Memory.read]
  | cons c m ih =>
    have hc : c.1 ≠ a.toNat := h c (by simp)
    by_cases hk : a.toNat < c.1
    · simp [Memory.place, Memory.read, hk]
    · simp [Memory.place, Memory.read, hk, hc, ih fun d hd => h d (by simp [hd])]

theorem ne_of_mem_unlist {m : Memory} {k : Nat} {c : Host.Cell} (h : c ∈ m.unlist k) : c.1 ≠ k := by
  induction m with
  | nil => simp [Memory.unlist] at h
  | cons d m ih =>
    by_cases hd : d.1 = k
    · exact ih (by simpa [Memory.unlist, hd] using h)
    · have h' : c = d ∨ c ∈ Memory.unlist m k := by simpa [Memory.unlist, hd] using h
      rcases h' with rfl | h'
      · exact hd
      · exact ih h'

/-- A read gives the last byte written at its address. -/
@[simp] theorem read_write_same (m : Memory) (a : Addr) (v : Byte) : (m.write a v).read a = v := by
  by_cases hv : v = unlistedByte
  · simp [Memory.write, hv, read_unlist_same]
  · simp [Memory.write, hv, read_place_same _ _ _ fun _ => ne_of_mem_unlist]

/-- A write leaves every other address alone. -/
theorem read_write_other (m : Memory) {a b : Addr} (v : Byte) (h : b ≠ a) : (m.write a v).read b = m.read b := by
  have hn : b.toNat ≠ a.toNat := fun e => h (BitVec.eq_of_toNat_eq e)
  by_cases hv : v = unlistedByte
  · simp [Memory.write, hv, read_unlist_other m hn]
  · simp [Memory.write, hv, read_place_other _ v hn, read_unlist_other m hn]

/-- Both cases of a read after a write. -/
theorem read_write (m : Memory) (a b : Addr) (v : Byte) :
    (m.write a v).read b = if b = a then v else m.read b := by
  by_cases h : b = a
  · simp [h]
  · simp [h, read_write_other m v h]

/-! ### The canonical form -/

theorem mem_of_mem_unlist {m : Memory} {k : Nat} {c : Host.Cell} (h : c ∈ m.unlist k) : c ∈ m := by
  induction m with
  | nil => simp [Memory.unlist] at h
  | cons d m ih =>
    by_cases hd : d.1 = k
    · exact List.mem_cons_of_mem _ (ih (by simpa [Memory.unlist, hd] using h))
    · have h' : c = d ∨ c ∈ Memory.unlist m k := by simpa [Memory.unlist, hd] using h
      rcases h' with rfl | h'
      · exact List.mem_cons_self
      · exact List.mem_cons_of_mem _ (ih h')

theorem mem_place {m : Memory} {k : Nat} {v : Byte} {c : Host.Cell} (h : c ∈ Memory.place k v m) :
    c = (k, v) ∨ c ∈ m := by
  induction m with
  | nil => simpa [Memory.place] using h
  | cons d m ih =>
    by_cases hk : k < d.1
    · simpa [Memory.place, hk] using h
    · have h' : c = d ∨ c ∈ Memory.place k v m := by simpa [Memory.place, hk] using h
      rcases h' with rfl | h'
      · exact .inr List.mem_cons_self
      · exact (ih h').imp_right (List.mem_cons_of_mem _)

theorem wf_unlist {m : Memory} (k : Nat) (h : m.wf) : (m.unlist k).wf := by
  refine ⟨?_, fun c hc => h.2 c (mem_of_mem_unlist hc)⟩
  have hp := h.1
  clear h
  induction m with
  | nil => exact List.Pairwise.nil
  | cons d m ih =>
    rw [List.pairwise_cons] at hp
    by_cases hd : d.1 = k
    · simpa [Memory.unlist, hd] using ih hp.2
    · simp only [Memory.unlist, hd, if_false, List.pairwise_cons]
      exact ⟨fun c hc => hp.1 c (mem_of_mem_unlist hc), ih hp.2⟩

theorem wf_place {m : Memory} {k : Nat} {v : Byte} (h : m.wf) (hk : k < 65536) (hv : v ≠ unlistedByte)
    (hn : ∀ c ∈ m, c.1 ≠ k) : (Memory.place k v m).wf := by
  refine ⟨?_, fun c hc => ?_⟩
  · have hp := h.1
    clear h
    induction m with
    | nil => exact List.pairwise_singleton _ _
    | cons d m ih =>
      rw [List.pairwise_cons] at hp
      have hd : d.1 ≠ k := hn d List.mem_cons_self
      by_cases hlt : k < d.1
      · simp only [Memory.place, hlt, if_true, List.pairwise_cons]
        refine ⟨fun c hc => ?_, hp.1, hp.2⟩
        rcases List.mem_cons.mp hc with rfl | hc
        · exact hlt
        · exact hlt.trans (hp.1 c hc)
      · simp only [Memory.place, hlt, if_false, List.pairwise_cons]
        refine ⟨fun c hc => ?_, ih (fun c hc => hn c (List.mem_cons_of_mem _ hc)) hp.2⟩
        rcases mem_place hc with rfl | hc
        · show d.1 < k
          omega
        · exact hp.1 c hc
  · rcases mem_place hc with rfl | hc
    · exact ⟨hk, hv⟩
    · exact h.2 c hc

theorem wf_nil : Memory.wf [] := ⟨List.Pairwise.nil, by simp⟩

/-- A write keeps the canonical form. -/
theorem wf_write {m : Memory} (a : Addr) (v : Byte) (h : m.wf) : (m.write a v).wf := by
  by_cases hv : v = unlistedByte
  · simpa only [Memory.write, hv, if_true] using wf_unlist a.toNat h
  · simpa only [Memory.write, hv, if_false] using
      wf_place (wf_unlist a.toNat h) a.isLt hv fun _ => ne_of_mem_unlist

end Memory

end Sys2Proof.Machine
end

