-- ==== Sys2Proof/Laws/State.lean ====
section
/-! SUPPORT. One lemma for each field of the state after each setter, on any platform, so that no later proof unfolds a
record update. -/

namespace Sys2Proof.Machine

variable {β : Type} {M : Platform β}

@[simp] theorem State.On.setA_A (v : Byte) (s : State.On M) : (s.setA v).A = v := rfl
@[simp] theorem State.On.setA_X (v : Byte) (s : State.On M) : (s.setA v).X = s.X := rfl
@[simp] theorem State.On.setA_Y (v : Byte) (s : State.On M) : (s.setA v).Y = s.Y := rfl
@[simp] theorem State.On.setA_S (v : Byte) (s : State.On M) : (s.setA v).S = s.S := rfl
@[simp] theorem State.On.setA_PC (v : Byte) (s : State.On M) : (s.setA v).PC = s.PC := rfl
@[simp] theorem State.On.setA_P (v : Byte) (s : State.On M) : (s.setA v).P = s.P := rfl
@[simp] theorem State.On.setA_halted (v : Byte) (s : State.On M) : (s.setA v).halted = s.halted := rfl
@[simp] theorem State.On.setA_mem (v : Byte) (s : State.On M) : (s.setA v).mem = s.mem := rfl
@[simp] theorem State.On.setA_cycles (v : Byte) (s : State.On M) : (s.setA v).cycles = s.cycles := rfl
@[simp] theorem State.On.setA_bus (v : Byte) (s : State.On M) : (s.setA v).bus = s.bus := rfl

@[simp] theorem State.On.setX_A (v : Byte) (s : State.On M) : (s.setX v).A = s.A := rfl
@[simp] theorem State.On.setX_X (v : Byte) (s : State.On M) : (s.setX v).X = v := rfl
@[simp] theorem State.On.setX_Y (v : Byte) (s : State.On M) : (s.setX v).Y = s.Y := rfl
@[simp] theorem State.On.setX_S (v : Byte) (s : State.On M) : (s.setX v).S = s.S := rfl
@[simp] theorem State.On.setX_PC (v : Byte) (s : State.On M) : (s.setX v).PC = s.PC := rfl
@[simp] theorem State.On.setX_P (v : Byte) (s : State.On M) : (s.setX v).P = s.P := rfl
@[simp] theorem State.On.setX_halted (v : Byte) (s : State.On M) : (s.setX v).halted = s.halted := rfl
@[simp] theorem State.On.setX_mem (v : Byte) (s : State.On M) : (s.setX v).mem = s.mem := rfl
@[simp] theorem State.On.setX_cycles (v : Byte) (s : State.On M) : (s.setX v).cycles = s.cycles := rfl
@[simp] theorem State.On.setX_bus (v : Byte) (s : State.On M) : (s.setX v).bus = s.bus := rfl

@[simp] theorem State.On.setY_A (v : Byte) (s : State.On M) : (s.setY v).A = s.A := rfl
@[simp] theorem State.On.setY_X (v : Byte) (s : State.On M) : (s.setY v).X = s.X := rfl
@[simp] theorem State.On.setY_Y (v : Byte) (s : State.On M) : (s.setY v).Y = v := rfl
@[simp] theorem State.On.setY_S (v : Byte) (s : State.On M) : (s.setY v).S = s.S := rfl
@[simp] theorem State.On.setY_PC (v : Byte) (s : State.On M) : (s.setY v).PC = s.PC := rfl
@[simp] theorem State.On.setY_P (v : Byte) (s : State.On M) : (s.setY v).P = s.P := rfl
@[simp] theorem State.On.setY_halted (v : Byte) (s : State.On M) : (s.setY v).halted = s.halted := rfl
@[simp] theorem State.On.setY_mem (v : Byte) (s : State.On M) : (s.setY v).mem = s.mem := rfl
@[simp] theorem State.On.setY_cycles (v : Byte) (s : State.On M) : (s.setY v).cycles = s.cycles := rfl
@[simp] theorem State.On.setY_bus (v : Byte) (s : State.On M) : (s.setY v).bus = s.bus := rfl

@[simp] theorem State.On.setS_A (v : Byte) (s : State.On M) : (s.setS v).A = s.A := rfl
@[simp] theorem State.On.setS_X (v : Byte) (s : State.On M) : (s.setS v).X = s.X := rfl
@[simp] theorem State.On.setS_Y (v : Byte) (s : State.On M) : (s.setS v).Y = s.Y := rfl
@[simp] theorem State.On.setS_S (v : Byte) (s : State.On M) : (s.setS v).S = v := rfl
@[simp] theorem State.On.setS_PC (v : Byte) (s : State.On M) : (s.setS v).PC = s.PC := rfl
@[simp] theorem State.On.setS_P (v : Byte) (s : State.On M) : (s.setS v).P = s.P := rfl
@[simp] theorem State.On.setS_halted (v : Byte) (s : State.On M) : (s.setS v).halted = s.halted := rfl
@[simp] theorem State.On.setS_mem (v : Byte) (s : State.On M) : (s.setS v).mem = s.mem := rfl
@[simp] theorem State.On.setS_cycles (v : Byte) (s : State.On M) : (s.setS v).cycles = s.cycles := rfl
@[simp] theorem State.On.setS_bus (v : Byte) (s : State.On M) : (s.setS v).bus = s.bus := rfl

@[simp] theorem State.On.setPC_A (v : Addr) (s : State.On M) : (s.setPC v).A = s.A := rfl
@[simp] theorem State.On.setPC_X (v : Addr) (s : State.On M) : (s.setPC v).X = s.X := rfl
@[simp] theorem State.On.setPC_Y (v : Addr) (s : State.On M) : (s.setPC v).Y = s.Y := rfl
@[simp] theorem State.On.setPC_S (v : Addr) (s : State.On M) : (s.setPC v).S = s.S := rfl
@[simp] theorem State.On.setPC_PC (v : Addr) (s : State.On M) : (s.setPC v).PC = v := rfl
@[simp] theorem State.On.setPC_P (v : Addr) (s : State.On M) : (s.setPC v).P = s.P := rfl
@[simp] theorem State.On.setPC_halted (v : Addr) (s : State.On M) : (s.setPC v).halted = s.halted := rfl
@[simp] theorem State.On.setPC_mem (v : Addr) (s : State.On M) : (s.setPC v).mem = s.mem := rfl
@[simp] theorem State.On.setPC_cycles (v : Addr) (s : State.On M) : (s.setPC v).cycles = s.cycles := rfl
@[simp] theorem State.On.setPC_bus (v : Addr) (s : State.On M) : (s.setPC v).bus = s.bus := rfl

@[simp] theorem State.On.setP_A (v : Status) (s : State.On M) : (s.setP v).A = s.A := rfl
@[simp] theorem State.On.setP_X (v : Status) (s : State.On M) : (s.setP v).X = s.X := rfl
@[simp] theorem State.On.setP_Y (v : Status) (s : State.On M) : (s.setP v).Y = s.Y := rfl
@[simp] theorem State.On.setP_S (v : Status) (s : State.On M) : (s.setP v).S = s.S := rfl
@[simp] theorem State.On.setP_PC (v : Status) (s : State.On M) : (s.setP v).PC = s.PC := rfl
@[simp] theorem State.On.setP_P (v : Status) (s : State.On M) : (s.setP v).P = v := rfl
@[simp] theorem State.On.setP_halted (v : Status) (s : State.On M) : (s.setP v).halted = s.halted := rfl
@[simp] theorem State.On.setP_mem (v : Status) (s : State.On M) : (s.setP v).mem = s.mem := rfl
@[simp] theorem State.On.setP_cycles (v : Status) (s : State.On M) : (s.setP v).cycles = s.cycles := rfl
@[simp] theorem State.On.setP_bus (v : Status) (s : State.On M) : (s.setP v).bus = s.bus := rfl

@[simp] theorem State.On.setHalted_A (v : Bool) (s : State.On M) : (s.setHalted v).A = s.A := rfl
@[simp] theorem State.On.setHalted_X (v : Bool) (s : State.On M) : (s.setHalted v).X = s.X := rfl
@[simp] theorem State.On.setHalted_Y (v : Bool) (s : State.On M) : (s.setHalted v).Y = s.Y := rfl
@[simp] theorem State.On.setHalted_S (v : Bool) (s : State.On M) : (s.setHalted v).S = s.S := rfl
@[simp] theorem State.On.setHalted_PC (v : Bool) (s : State.On M) : (s.setHalted v).PC = s.PC := rfl
@[simp] theorem State.On.setHalted_P (v : Bool) (s : State.On M) : (s.setHalted v).P = s.P := rfl
@[simp] theorem State.On.setHalted_halted (v : Bool) (s : State.On M) : (s.setHalted v).halted = v := rfl
@[simp] theorem State.On.setHalted_mem (v : Bool) (s : State.On M) : (s.setHalted v).mem = s.mem := rfl
@[simp] theorem State.On.setHalted_cycles (v : Bool) (s : State.On M) : (s.setHalted v).cycles = s.cycles := rfl
@[simp] theorem State.On.setHalted_bus (v : Bool) (s : State.On M) : (s.setHalted v).bus = s.bus := rfl

@[simp] theorem State.On.setMem_A (v : β) (s : State.On M) : (s.setMem v).A = s.A := rfl
@[simp] theorem State.On.setMem_X (v : β) (s : State.On M) : (s.setMem v).X = s.X := rfl
@[simp] theorem State.On.setMem_Y (v : β) (s : State.On M) : (s.setMem v).Y = s.Y := rfl
@[simp] theorem State.On.setMem_S (v : β) (s : State.On M) : (s.setMem v).S = s.S := rfl
@[simp] theorem State.On.setMem_PC (v : β) (s : State.On M) : (s.setMem v).PC = s.PC := rfl
@[simp] theorem State.On.setMem_P (v : β) (s : State.On M) : (s.setMem v).P = s.P := rfl
@[simp] theorem State.On.setMem_halted (v : β) (s : State.On M) : (s.setMem v).halted = s.halted := rfl
@[simp] theorem State.On.setMem_mem (v : β) (s : State.On M) : (s.setMem v).mem = v := rfl
@[simp] theorem State.On.setMem_cycles (v : β) (s : State.On M) : (s.setMem v).cycles = s.cycles := rfl
@[simp] theorem State.On.setMem_bus (v : β) (s : State.On M) : (s.setMem v).bus = s.bus := rfl

@[simp] theorem State.On.setCycles_A (v : Option CycleCount) (s : State.On M) : (s.setCycles v).A = s.A := rfl
@[simp] theorem State.On.setCycles_X (v : Option CycleCount) (s : State.On M) : (s.setCycles v).X = s.X := rfl
@[simp] theorem State.On.setCycles_Y (v : Option CycleCount) (s : State.On M) : (s.setCycles v).Y = s.Y := rfl
@[simp] theorem State.On.setCycles_S (v : Option CycleCount) (s : State.On M) : (s.setCycles v).S = s.S := rfl
@[simp] theorem State.On.setCycles_PC (v : Option CycleCount) (s : State.On M) : (s.setCycles v).PC = s.PC := rfl
@[simp] theorem State.On.setCycles_P (v : Option CycleCount) (s : State.On M) : (s.setCycles v).P = s.P := rfl
@[simp] theorem State.On.setCycles_halted (v : Option CycleCount) (s : State.On M) : (s.setCycles v).halted = s.halted := rfl
@[simp] theorem State.On.setCycles_mem (v : Option CycleCount) (s : State.On M) : (s.setCycles v).mem = s.mem := rfl
@[simp] theorem State.On.setCycles_cycles (v : Option CycleCount) (s : State.On M) : (s.setCycles v).cycles = v := rfl
@[simp] theorem State.On.setCycles_bus (v : Option CycleCount) (s : State.On M) : (s.setCycles v).bus = s.bus := rfl

@[simp] theorem State.On.setBus_A (v : List BusAccess) (s : State.On M) : (s.setBus v).A = s.A := rfl
@[simp] theorem State.On.setBus_X (v : List BusAccess) (s : State.On M) : (s.setBus v).X = s.X := rfl
@[simp] theorem State.On.setBus_Y (v : List BusAccess) (s : State.On M) : (s.setBus v).Y = s.Y := rfl
@[simp] theorem State.On.setBus_S (v : List BusAccess) (s : State.On M) : (s.setBus v).S = s.S := rfl
@[simp] theorem State.On.setBus_PC (v : List BusAccess) (s : State.On M) : (s.setBus v).PC = s.PC := rfl
@[simp] theorem State.On.setBus_P (v : List BusAccess) (s : State.On M) : (s.setBus v).P = s.P := rfl
@[simp] theorem State.On.setBus_halted (v : List BusAccess) (s : State.On M) : (s.setBus v).halted = s.halted := rfl
@[simp] theorem State.On.setBus_mem (v : List BusAccess) (s : State.On M) : (s.setBus v).mem = s.mem := rfl
@[simp] theorem State.On.setBus_cycles (v : List BusAccess) (s : State.On M) : (s.setBus v).cycles = s.cycles := rfl
@[simp] theorem State.On.setBus_bus (v : List BusAccess) (s : State.On M) : (s.setBus v).bus = v := rfl

end Sys2Proof.Machine
end

