-- ==== Sys2Proof/Laws/Ops.lean ====
section
/-! SUPPORT. What each shared operation over flags, bus, stack and registers can do, once: the value it gives and the one
state it leaves. Later proofs cite these and do not unfold the operations. -/

namespace Sys2Proof.Machine

open Sys2Proof

/-! ### `SetNZ` changes the status register only -/

@[simp] theorem State.On.setNZ_P (v : Byte) (s : State) : (s.setNZ v).P = s.P.setNZ v := rfl
@[simp] theorem State.On.setNZ_A (v : Byte) (s : State) : (s.setNZ v).A = s.A := rfl
@[simp] theorem State.On.setNZ_X (v : Byte) (s : State) : (s.setNZ v).X = s.X := rfl
@[simp] theorem State.On.setNZ_Y (v : Byte) (s : State) : (s.setNZ v).Y = s.Y := rfl
@[simp] theorem State.On.setNZ_S (v : Byte) (s : State) : (s.setNZ v).S = s.S := rfl
@[simp] theorem State.On.setNZ_PC (v : Byte) (s : State) : (s.setNZ v).PC = s.PC := rfl
@[simp] theorem State.On.setNZ_halted (v : Byte) (s : State) : (s.setNZ v).halted = s.halted := rfl
@[simp] theorem State.On.setNZ_mem (v : Byte) (s : State) : (s.setNZ v).mem = s.mem := rfl
@[simp] theorem State.On.setNZ_cycles (v : Byte) (s : State) : (s.setNZ v).cycles = s.cycles := rfl
@[simp] theorem State.On.setNZ_bus (v : Byte) (s : State) : (s.setNZ v).bus = s.bus := rfl

@[simp] theorem Status.setNZ_Z (v : Byte) (p : Status) : (p.setNZ v).Z = (v == 0) := rfl
@[simp] theorem Status.setNZ_N (v : Byte) (p : Status) : (p.setNZ v).N = v.getLsbD 7 := rfl
@[simp] theorem Status.setNZ_C (v : Byte) (p : Status) : (p.setNZ v).C = p.C := rfl
@[simp] theorem Status.setNZ_I (v : Byte) (p : Status) : (p.setNZ v).I = p.I := rfl
@[simp] theorem Status.setNZ_D (v : Byte) (p : Status) : (p.setNZ v).D = p.D := rfl
@[simp] theorem Status.setNZ_B (v : Byte) (p : Status) : (p.setNZ v).B = p.B := rfl
@[simp] theorem Status.setNZ_V (v : Byte) (p : Status) : (p.setNZ v).V = p.V := rfl

/-! ### The platform of `State` -/

@[simp] theorem Platform.flat_config (c : Config) : (Platform.flat c).config = c := rfl
@[simp] theorem Platform.flat_read (c : Config) (m : Memory) (a : Addr) : (Platform.flat c).read m a = (m.read a, m) := rfl
@[simp] theorem Platform.flat_write (c : Config) (m : Memory) (a : Addr) (v : Byte) :
    (Platform.flat c).write m a v = m.write a v := rfl
@[simp] theorem Platform.machine_config : Platform.machine.config = Config.machine := rfl
@[simp] theorem Platform.machine_read (m : Memory) (a : Addr) : Platform.machine.read m a = (m.read a, m) := rfl
@[simp] theorem Platform.machine_write (m : Memory) (a : Addr) (v : Byte) : Platform.machine.write m a v = m.write a v := rfl

/-! ### Bus calls -/

/-- A read gives the byte in memory and changes nothing but the record of calls. -/
@[simp] theorem State.On.busRead_fst (a : Addr) (s : State) : (s.busRead a).1 = s.mem.read a := rfl

theorem State.On.busRead_snd (a : Addr) (s : State) :
    (s.busRead a).2 = { s with bus := s.bus ++ [.read a (s.mem.read a)] } := rfl

/-- A write changes one byte of memory and the record of calls. -/
theorem State.On.busWrite_eq (a : Addr) (v : Byte) (s : State) :
    s.busWrite a v = { s with mem := s.mem.write a v, bus := s.bus ++ [.write a v] } := rfl

/-- A write keeps the canonical form of memory. -/
theorem State.On.busWrite_wf (a : Addr) (v : Byte) {s : State} (h : s.mem.wf) : (s.busWrite a v).mem.wf :=
  Memory.wf_write a v h

@[simp] theorem State.On.busRead_A (a : Addr) (s : State) : (s.busRead a).2.A = s.A := rfl
@[simp] theorem State.On.busRead_X (a : Addr) (s : State) : (s.busRead a).2.X = s.X := rfl
@[simp] theorem State.On.busRead_Y (a : Addr) (s : State) : (s.busRead a).2.Y = s.Y := rfl
@[simp] theorem State.On.busRead_S (a : Addr) (s : State) : (s.busRead a).2.S = s.S := rfl
@[simp] theorem State.On.busRead_PC (a : Addr) (s : State) : (s.busRead a).2.PC = s.PC := rfl
@[simp] theorem State.On.busRead_P (a : Addr) (s : State) : (s.busRead a).2.P = s.P := rfl
@[simp] theorem State.On.busRead_halted (a : Addr) (s : State) : (s.busRead a).2.halted = s.halted := rfl
@[simp] theorem State.On.busRead_mem (a : Addr) (s : State) : (s.busRead a).2.mem = s.mem := rfl
@[simp] theorem State.On.busRead_cycles (a : Addr) (s : State) : (s.busRead a).2.cycles = s.cycles := rfl
@[simp] theorem State.On.busRead_bus (a : Addr) (s : State) :
    (s.busRead a).2.bus = s.bus ++ [.read a (s.mem.read a)] := rfl

@[simp] theorem State.On.busWrite_A (a : Addr) (v : Byte) (s : State) : (s.busWrite a v).A = s.A := rfl
@[simp] theorem State.On.busWrite_X (a : Addr) (v : Byte) (s : State) : (s.busWrite a v).X = s.X := rfl
@[simp] theorem State.On.busWrite_Y (a : Addr) (v : Byte) (s : State) : (s.busWrite a v).Y = s.Y := rfl
@[simp] theorem State.On.busWrite_S (a : Addr) (v : Byte) (s : State) : (s.busWrite a v).S = s.S := rfl
@[simp] theorem State.On.busWrite_PC (a : Addr) (v : Byte) (s : State) : (s.busWrite a v).PC = s.PC := rfl
@[simp] theorem State.On.busWrite_P (a : Addr) (v : Byte) (s : State) : (s.busWrite a v).P = s.P := rfl
@[simp] theorem State.On.busWrite_halted (a : Addr) (v : Byte) (s : State) : (s.busWrite a v).halted = s.halted := rfl
@[simp] theorem State.On.busWrite_mem (a : Addr) (v : Byte) (s : State) : (s.busWrite a v).mem = s.mem.write a v := rfl
@[simp] theorem State.On.busWrite_cycles (a : Addr) (v : Byte) (s : State) : (s.busWrite a v).cycles = s.cycles := rfl
@[simp] theorem State.On.busWrite_bus (a : Addr) (v : Byte) (s : State) :
    (s.busWrite a v).bus = s.bus ++ [.write a v] := rfl

/-! ### 16-bit reads -/

/-- The word read, low byte at `la`. -/
theorem State.On.readPair_fst (la ha : Addr) (s : State) :
    (s.readPair la ha).1 = word16 (s.mem.read ha) (s.mem.read la) := rfl

/-- Two calls, low byte first, and nothing else. -/
theorem State.On.readPair_snd (la ha : Addr) (s : State) :
    (s.readPair la ha).2 = { s with bus := s.bus ++ [.read la (s.mem.read la), .read ha (s.mem.read ha)] } := by
  simp [State.On.readPair, State.On.busRead_snd]

/-! ### The stack -/

theorem State.On.push_eq (v : Byte) (s : State) :
    s.push v =
      { s with
        S := s.S - 1
        mem := s.mem.write (stackAddr s.S) v
        bus := s.bus ++ [.write (stackAddr s.S) v] } := rfl

theorem State.On.pull_fst (s : State) : s.pull.1 = s.mem.read (stackAddr (s.S + 1)) := rfl

theorem State.On.pull_snd (s : State) :
    s.pull.2 =
      { s with
        S := s.S + 1
        bus := s.bus ++ [.read (stackAddr (s.S + 1)) (s.mem.read (stackAddr (s.S + 1)))] } := rfl

theorem State.On.push_wf (v : Byte) {s : State} (h : s.mem.wf) : (s.push v).mem.wf := Memory.wf_write _ v h

theorem State.On.push16_wf (w : Addr) {s : State} (h : s.mem.wf) : (s.push16 w).mem.wf :=
  State.On.push_wf _ (State.On.push_wf _ h)

theorem State.On.pull16_fst (s : State) :
    s.pull16.1 = word16 (s.mem.read (stackAddr (s.S + 1 + 1))) (s.mem.read (stackAddr (s.S + 1))) := rfl

/-- A 16-bit pull moves `S` by 2 and makes two calls. -/
theorem State.On.pull16_snd (s : State) :
    s.pull16.2 =
      { s with
        S := s.S + 1 + 1
        bus := s.bus ++ [.read (stackAddr (s.S + 1)) (s.mem.read (stackAddr (s.S + 1))),
          .read (stackAddr (s.S + 1 + 1)) (s.mem.read (stackAddr (s.S + 1 + 1)))] } := by
  simp [State.On.pull16, State.On.pull_snd]

/-! ### The trap and its return -/

/-- What taking the trap leaves alone. -/
theorem State.On.takeTrap_frame (ret : Addr) (s : State) :
    (s.takeTrap ret).A = s.A ∧ (s.takeTrap ret).X = s.X ∧ (s.takeTrap ret).Y = s.Y ∧
      (s.takeTrap ret).halted = s.halted ∧ (s.takeTrap ret).cycles = s.cycles ∧
      (s.takeTrap ret).P = { s.P with I := true } := by
  simp [State.On.takeTrap, State.On.read16, State.On.readPair_snd, State.On.push16, State.On.push_eq]

theorem State.On.takeTrap_wf (ret : Addr) {s : State} (h : s.mem.wf) : (s.takeTrap ret).mem.wf := by
  have hm : (s.takeTrap ret).mem = ((s.push16 ret).push (s.P.pack ||| 0x10)).mem := by
    simp [State.On.takeTrap, State.On.read16, State.On.readPair_snd]
  rw [hm]
  exact State.On.push_wf _ (State.On.push16_wf ret h)

/-- What the return leaves alone. -/
theorem State.On.returnFromTrap_frame (s : State) :
    s.returnFromTrap.A = s.A ∧ s.returnFromTrap.X = s.X ∧ s.returnFromTrap.Y = s.Y ∧
      s.returnFromTrap.halted = s.halted ∧ s.returnFromTrap.cycles = s.cycles ∧ s.returnFromTrap.mem = s.mem := by
  simp [State.On.returnFromTrap, State.On.pull16_snd, State.On.pull_snd]

/-! ### Reset -/

/-- Reset leaves memory alone. -/
@[simp] theorem State.On.resetWith_mem (c : Config) (s : State) : (s.resetWith c).mem = s.mem := by
  simp [State.On.resetWith, State.On.read16, State.On.readPair_snd]

end Sys2Proof.Machine
end

