-- ==== Sys2Proof/Laws/Effects.lean ====
section
/-! SUPPORT. What each instruction does to the registers and flags, as one record update: the fields it names, and every
other field as it was. -/

namespace Sys2Proof.Machine

open Sys2Proof

/-! ### Loads and transfers -/

theorem loadA_eq (m : Byte) (s : State) : loadA m s = { s with A := m, P := s.P.setNZ m } := rfl
theorem loadX_eq (m : Byte) (s : State) : loadX m s = { s with X := m, P := s.P.setNZ m } := rfl
theorem loadY_eq (m : Byte) (s : State) : loadY m s = { s with Y := m, P := s.P.setNZ m } := rfl
theorem loadAX_eq (m : Byte) (s : State) : loadAX m s = { s with A := m, X := m, P := s.P.setNZ m } := rfl
theorem transferAX_eq (s : State) : transferAX s = { s with X := s.A, P := s.P.setNZ s.A } := rfl
theorem transferAY_eq (s : State) : transferAY s = { s with Y := s.A, P := s.P.setNZ s.A } := rfl
theorem transferXA_eq (s : State) : transferXA s = { s with A := s.X, P := s.P.setNZ s.X } := rfl
theorem transferYA_eq (s : State) : transferYA s = { s with A := s.Y, P := s.P.setNZ s.Y } := rfl
theorem transferSX_eq (s : State) : transferSX s = { s with X := s.S, P := s.P.setNZ s.S } := rfl
theorem transferXS_eq (s : State) : transferXS s = { s with S := s.X } := rfl
theorem andStackPointer_eq (m : Byte) (s : State) :
    andStackPointer m s =
      { s with A := m &&& s.S, X := m &&& s.S, S := m &&& s.S, P := s.P.setNZ (m &&& s.S) } := rfl

/-! ### The stack -/

theorem pushA_eq (s : State) :
    pushA s =
      { s with
        S := s.S - 1
        mem := s.mem.write (stackAddr s.S) s.A
        bus := s.bus ++ [.write (stackAddr s.S) s.A] } := rfl

theorem pushP_eq (s : State) :
    pushP s =
      { s with
        S := s.S - 1
        mem := s.mem.write (stackAddr s.S) s.P.pack
        bus := s.bus ++ [.write (stackAddr s.S) s.P.pack] } := rfl

theorem pullA_eq (s : State) :
    pullA s =
      let m := s.mem.read (stackAddr (s.S + 1))
      { s with A := m, S := s.S + 1, P := s.P.setNZ m, bus := s.bus ++ [.read (stackAddr (s.S + 1)) m] } := rfl

theorem pullP_eq (s : State) :
    pullP s =
      let m := s.mem.read (stackAddr (s.S + 1))
      { s with S := s.S + 1, P := Status.unpack m, bus := s.bus ++ [.read (stackAddr (s.S + 1)) m] } := rfl

/-! ### Arithmetic and logic -/

theorem State.On.addCore_eq (m : Byte) (s : State) :
    s.addCore m =
      let r : Byte := BitVec.ofNat 8 (s.A.toNat + m.toNat + s.P.C.toNat)
      { s with
        A := r
        P :=
          { C := decide (s.A.toNat + m.toNat + s.P.C.toNat > 0xFF), Z := r == 0, I := s.P.I, D := s.P.D, B := s.P.B
            V := ((s.A ^^^ r) &&& (m ^^^ r)).getLsbD 7, N := r.getLsbD 7 } } := rfl

theorem subtractCore_eq (m : Byte) (s : State) : subtractCore m s = s.addCore (~~~m) := rfl
theorem andA_eq (m : Byte) (s : State) : andA m s = { s with A := s.A &&& m, P := s.P.setNZ (s.A &&& m) } := rfl
theorem oraA_eq (m : Byte) (s : State) : oraA m s = { s with A := s.A ||| m, P := s.P.setNZ (s.A ||| m) } := rfl
theorem eorA_eq (m : Byte) (s : State) : eorA m s = { s with A := s.A ^^^ m, P := s.P.setNZ (s.A ^^^ m) } := rfl

theorem State.On.compare_eq (r m : Byte) (s : State) :
    s.compare r m =
      { s with P := { s.P with C := decide (m.toNat ≤ r.toNat), Z := r == m, N := (r - m).getLsbD 7 } } := rfl

theorem compareA_eq (m : Byte) (s : State) : compareA m s = s.compare s.A m := rfl
theorem compareX_eq (m : Byte) (s : State) : compareX m s = s.compare s.X m := rfl
theorem compareY_eq (m : Byte) (s : State) : compareY m s = s.compare s.Y m := rfl

theorem bitTest_eq (m : Byte) (s : State) :
    bitTest m s = { s with P := { s.P with Z := s.A &&& m == 0, N := m.getLsbD 7, V := m.getLsbD 6 } } := rfl

theorem incrementX_eq (s : State) : incrementX s = { s with X := s.X + 1, P := s.P.setNZ (s.X + 1) } := rfl
theorem incrementY_eq (s : State) : incrementY s = { s with Y := s.Y + 1, P := s.P.setNZ (s.Y + 1) } := rfl
theorem decrementX_eq (s : State) : decrementX s = { s with X := s.X - 1, P := s.P.setNZ (s.X - 1) } := rfl
theorem decrementY_eq (s : State) : decrementY s = { s with Y := s.Y - 1, P := s.P.setNZ (s.Y - 1) } := rfl

theorem andCopySign_eq (m : Byte) (s : State) :
    andCopySign m s =
      { s with A := s.A &&& m, P := { s.P.setNZ (s.A &&& m) with C := (s.A &&& m).getLsbD 7 } } := rfl

theorem andShiftRight_eq (m : Byte) (s : State) :
    andShiftRight m s =
      let r := (s.A &&& m) >>> 1
      { s with A := r, P := ({ s.P with C := (s.A &&& m).getLsbD 0 } : Status).setNZ r } := rfl

theorem andRotateRight_eq (m : Byte) (s : State) :
    andRotateRight m s =
      let r := ((s.A &&& m) >>> 1) ||| (carryByte s.P <<< 7)
      { s with A := r, P := { s.P.setNZ r with C := r.getLsbD 6, V := r.getLsbD 6 ^^ r.getLsbD 5 } } := rfl

theorem subtractFromAX_eq (m : Byte) (s : State) :
    subtractFromAX m s =
      let t := s.A &&& s.X
      { s with X := t - m, P := { s.P.setNZ (t - m) with C := decide (m.toNat ≤ t.toNat) } } := rfl

/-! ### Flags and NOP -/

theorem clearC_eq (s : State) : clearC s = { s with P := { s.P with C := false } } := rfl
theorem setC_eq (s : State) : setC s = { s with P := { s.P with C := true } } := rfl
theorem clearI_eq (s : State) : clearI s = { s with P := { s.P with I := false } } := rfl
theorem setI_eq (s : State) : setI s = { s with P := { s.P with I := true } } := rfl
theorem clearD_eq (s : State) : clearD s = { s with P := { s.P with D := false } } := rfl
theorem setD_eq (s : State) : setD s = { s with P := { s.P with D := true } } := rfl
theorem clearV_eq (s : State) : clearV s = { s with P := { s.P with V := false } } := rfl
theorem noOperation_eq (s : State) : noOperation s = s := rfl
theorem discardByte_eq (m : Byte) (s : State) : discardByte m s = s := rfl

/-! ### Control flow -/

theorem State.On.push16_eq (w : Addr) (s : State) :
    s.push16 w =
      { s with
        S := s.S - 1 - 1
        mem := (s.mem.write (stackAddr s.S) (hi w)).write (stackAddr (s.S - 1)) (lo w)
        bus := s.bus ++ [.write (stackAddr s.S) (hi w), .write (stackAddr (s.S - 1)) (lo w)] } := by
  simp [State.On.push16, State.On.push_eq]

theorem callTo_eq (target : Addr) (s : State) :
    callTo target s =
      { s with
        S := s.S - 1 - 1
        PC := target
        mem := (s.mem.write (stackAddr s.S) (hi (s.PC - 1))).write (stackAddr (s.S - 1)) (lo (s.PC - 1))
        bus := s.bus ++ [.write (stackAddr s.S) (hi (s.PC - 1)), .write (stackAddr (s.S - 1)) (lo (s.PC - 1))] } := by
  simp [callTo, State.On.push16_eq, State.On.setPC]

theorem returnFromCall_eq (s : State) :
    returnFromCall s =
      let l := s.mem.read (stackAddr (s.S + 1))
      let h := s.mem.read (stackAddr (s.S + 1 + 1))
      { s with
        S := s.S + 1 + 1
        PC := word16 h l + 1
        bus := s.bus ++ [.read (stackAddr (s.S + 1)) l, .read (stackAddr (s.S + 1 + 1)) h] } := by
  simp [returnFromCall, State.On.pull16_fst, State.On.pull16_snd, State.On.setPC]

theorem State.On.takeTrap_eq (ret : Addr) (s : State) :
    s.takeTrap ret =
      let st := s.P.pack ||| 0x10
      let m :=
        ((s.mem.write (stackAddr s.S) (hi ret)).write (stackAddr (s.S - 1)) (lo ret)).write (stackAddr (s.S - 1 - 1)) st
      let v := Config.machine.brkVector
      { s with
        S := s.S - 1 - 1 - 1
        PC := word16 (m.read (v + 1)) (m.read v)
        P := { s.P with I := true }
        mem := m
        bus := s.bus ++ [.write (stackAddr s.S) (hi ret), .write (stackAddr (s.S - 1)) (lo ret),
          .write (stackAddr (s.S - 1 - 1)) st, .read v (m.read v), .read (v + 1) (m.read (v + 1))] } := by
  simp [State.On.takeTrap, State.On.push16_eq, State.On.push_eq, State.On.read16, State.On.readPair_fst, State.On.readPair_snd, State.On.setP,
    State.On.setPC]

theorem breakTrap_eq (s : State) : breakTrap s = s.takeTrap (s.PC + 1) := rfl

theorem State.On.returnFromTrap_eq (s : State) :
    s.returnFromTrap =
      let b := s.mem.read (stackAddr (s.S + 1))
      let l := s.mem.read (stackAddr (s.S + 1 + 1))
      let h := s.mem.read (stackAddr (s.S + 1 + 1 + 1))
      { s with
        S := s.S + 1 + 1 + 1
        PC := word16 h l
        P := Status.unpack b
        bus := s.bus ++ [.read (stackAddr (s.S + 1)) b, .read (stackAddr (s.S + 1 + 1)) l,
          .read (stackAddr (s.S + 1 + 1 + 1)) h] } := by
  simp [State.On.returnFromTrap, State.On.pull_fst, State.On.pull_snd, State.On.pull16_fst, State.On.pull16_snd, State.On.setP, State.On.setPC]

end Sys2Proof.Machine
end

