-- ==== Sys2Proof/Laws/Operands.lean ====
section
/-! SUPPORT. What resolving, reading and writing an operand can do. -/

namespace Sys2Proof.Machine

open Sys2Proof

/-- The pointer reads the resolver makes (R44, item 3). -/
def pointerCalls : Operand → State → List BusAccess
  | .indirect w, s => [.read w (s.mem.read w), .read (word16 (hi w) (lo w + 1)) (s.mem.read (word16 (hi w) (lo w + 1)))]
  | .indirectX b, s =>
    [.read (zext16 (b + s.X)) (s.mem.read (zext16 (b + s.X))),
      .read (zext16 (b + s.X + 1)) (s.mem.read (zext16 (b + s.X + 1)))]
  | .indirectY b, s => [.read (zext16 b) (s.mem.read (zext16 b)), .read (zext16 (b + 1)) (s.mem.read (zext16 (b + 1)))]
  | .implied, _ | .accumulator, _ | .immediate _, _ | .zeroPage _, _ | .zeroPageX _, _ | .zeroPageY _, _
  | .relative _, _ | .absolute _, _ | .absoluteX _, _ | .absoluteY _, _ => []

/-- Resolving changes nothing but the record of calls. -/
theorem resolve_snd (o : Operand) (s : State) : (resolve o s).2 = { s with bus := s.bus ++ pointerCalls o s } := by
  cases o <;>
    simp [resolve, pointerCalls, State.On.read16ZP, State.On.read16SamePage, State.On.readPair_snd]

@[simp] theorem resolve_A (o : Operand) (s : State) : (resolve o s).2.A = s.A := by rw [resolve_snd]
@[simp] theorem resolve_X (o : Operand) (s : State) : (resolve o s).2.X = s.X := by rw [resolve_snd]
@[simp] theorem resolve_Y (o : Operand) (s : State) : (resolve o s).2.Y = s.Y := by rw [resolve_snd]
@[simp] theorem resolve_S (o : Operand) (s : State) : (resolve o s).2.S = s.S := by rw [resolve_snd]
@[simp] theorem resolve_PC (o : Operand) (s : State) : (resolve o s).2.PC = s.PC := by rw [resolve_snd]
@[simp] theorem resolve_P (o : Operand) (s : State) : (resolve o s).2.P = s.P := by rw [resolve_snd]
@[simp] theorem resolve_halted (o : Operand) (s : State) : (resolve o s).2.halted = s.halted := by rw [resolve_snd]
@[simp] theorem resolve_mem (o : Operand) (s : State) : (resolve o s).2.mem = s.mem := by rw [resolve_snd]
@[simp] theorem resolve_cycles (o : Operand) (s : State) : (resolve o s).2.cycles = s.cycles := by rw [resolve_snd]
@[simp] theorem resolve_bus (o : Operand) (s : State) : (resolve o s).2.bus = s.bus ++ pointerCalls o s := by rw [resolve_snd]

/-- The byte an operand stands for: the immediate byte, the byte in memory, or the accumulator (R72). -/
def operandValue : EffectiveOperand → State → Byte
  | .value v, _ => v
  | .address a, s => s.mem.read a
  | .none, s => s.A

/-- The data read of an operand (R44, item 4). -/
def operandCalls : EffectiveOperand → State → List BusAccess
  | .address a, s => [.read a (s.mem.read a)]
  | .value _, _ => []
  | .none, _ => []

@[simp] theorem operandValue_bus (e : EffectiveOperand) (s : State) (l : List BusAccess) :
    operandValue e { s with bus := l } = operandValue e s := by cases e <;> rfl

@[simp] theorem operandCalls_bus (e : EffectiveOperand) (s : State) (l : List BusAccess) :
    operandCalls e { s with bus := l } = operandCalls e s := by cases e <;> rfl

@[simp] theorem readOperand_fst (e : EffectiveOperand) (s : State) : (readOperand e s).1 = operandValue e s := by
  cases e <;> rfl

/-- Reading an operand changes nothing but the record of calls. -/
theorem readOperand_snd (e : EffectiveOperand) (s : State) :
    (readOperand e s).2 = { s with bus := s.bus ++ operandCalls e s } := by
  cases e <;> simp [readOperand, operandCalls, State.On.busRead_snd]

/-- The three cases of a write to an operand. -/
theorem writeOperand_cases (e : EffectiveOperand) (v : Byte) (s : State) :
    (∃ a, e = .address a ∧ writeOperand e v s = s.busWrite a v) ∨
      (e = .none ∧ writeOperand e v s = s.setA v) ∨ (∃ b, e = .value b ∧ writeOperand e v s = s) := by
  cases e with
  | none => exact .inr (.inl ⟨rfl, rfl⟩)
  | value b => exact .inr (.inr ⟨b, rfl, rfl⟩)
  | address a => exact .inl ⟨a, rfl, rfl⟩

/-- A write to an operand keeps the canonical form of memory. -/
theorem writeOperand_wf (e : EffectiveOperand) (v : Byte) {s : State} (h : s.mem.wf) : (writeOperand e v s).mem.wf := by
  rcases writeOperand_cases e v s with ⟨a, -, he⟩ | ⟨-, he⟩ | ⟨b, -, he⟩ <;> rw [he]
  · exact State.On.busWrite_wf a v h
  · exact h
  · exact h

/-- A write to an operand changes nothing but one byte of memory with the record of calls, or the accumulator. -/
@[simp] theorem writeOperand_X (e : EffectiveOperand) (v : Byte) (s : State) : (writeOperand e v s).X = s.X := by
  cases e <;> rfl
@[simp] theorem writeOperand_Y (e : EffectiveOperand) (v : Byte) (s : State) : (writeOperand e v s).Y = s.Y := by
  cases e <;> rfl
@[simp] theorem writeOperand_S (e : EffectiveOperand) (v : Byte) (s : State) : (writeOperand e v s).S = s.S := by
  cases e <;> rfl
@[simp] theorem writeOperand_PC (e : EffectiveOperand) (v : Byte) (s : State) : (writeOperand e v s).PC = s.PC := by
  cases e <;> rfl
@[simp] theorem writeOperand_P (e : EffectiveOperand) (v : Byte) (s : State) : (writeOperand e v s).P = s.P := by
  cases e <;> rfl
@[simp] theorem writeOperand_halted (e : EffectiveOperand) (v : Byte) (s : State) : (writeOperand e v s).halted = s.halted := by
  cases e <;> rfl
@[simp] theorem writeOperand_cycles (e : EffectiveOperand) (v : Byte) (s : State) : (writeOperand e v s).cycles = s.cycles := by
  cases e <;> rfl

/-- Only an operand without an address is the accumulator. -/
theorem writeOperand_A {e : EffectiveOperand} (v : Byte) (s : State) (h : e ≠ .none) : (writeOperand e v s).A = s.A := by
  cases e with
  | none => exact absurd rfl h
  | value b => rfl
  | address a => rfl

/-- A write to an operand leaves every byte of memory but the one at its address. -/
theorem writeOperand_read {e : EffectiveOperand} (v : Byte) (s : State) {a : Addr} (h : e ≠ .address a) :
    (writeOperand e v s).mem.read a = s.mem.read a := by
  cases e with
  | none => rfl
  | value b => rfl
  | address b => exact Memory.read_write_other _ _ fun hab => h (hab ▸ rfl)

end Sys2Proof.Machine
end

