-- ==== Sys2Proof/Laws/Forms.lean ====
section
/-! SUPPORT. What each instruction shape can do: the one next state it answers, or its one refusal. -/

namespace Sys2Proof.Machine

open Sys2Proof

/-- Retiring only sets the cycle count. -/
theorem retire_eq (op : Byte) (p : Nat) (s : State) :
    retire op p s = .next { s with cycles := some (BitVec.ofNat 32 ((lookup op).baseCycles + p)) } := rfl

/-- A read form answers a next state: its effect applied to the operand's byte, the calls recorded, the cycles set. -/
theorem readForm_eq (op : Byte) (o : Operand) (f : Byte → State → State) (s : State) :
    readForm op o f s =
      retire op (pagePenalty op (resolve o s).1.pageCrossed)
        (f (operandValue (resolve o s).1.operand s)
          { s with bus := s.bus ++ pointerCalls o s ++ operandCalls (resolve o s).1.operand s }) := by
  simp [readForm, readOperand_snd, resolve_snd]

/-- A store form answers a next state with the byte written at its operand. -/
theorem storeForm_eq (op : Byte) (o : Operand) (v : State → Byte) (s : State) :
    storeForm op o v s =
      retire op (pagePenalty op (resolve o s).1.pageCrossed)
        (writeOperand (resolve o s).1.operand (v s) { s with bus := s.bus ++ pointerCalls o s }) := by
  simp [storeForm, resolve_snd]

/-- A read-modify-write form answers a next state: read, the flags of `f`, write, then `g` on the byte written. -/
theorem rmwForm_eq (op : Byte) (o : Operand) (f : Byte → Status → Byte × Status) (g : Byte → State → State) (s : State) :
    rmwForm op o f g s =
      let q := f (operandValue (resolve o s).1.operand s) s.P
      retire op (pagePenalty op (resolve o s).1.pageCrossed)
        (g q.1 (writeOperand (resolve o s).1.operand q.1
          { s with P := q.2, bus := s.bus ++ pointerCalls o s ++ operandCalls (resolve o s).1.operand s })) := by
  simp [rmwForm, readOperand_snd, resolve_snd, State.On.setP]

theorem impliedForm_eq (op : Byte) (f : State → State) (s : State) : impliedForm op f s = retire op 0 (f s) := rfl

/-- A jump form answers a next state: its effect applied to `ea`. -/
theorem jumpForm_eq (op : Byte) (o : Operand) (f : Addr → State → State) (s : State) :
    jumpForm op o f s =
      retire op (pagePenalty op (resolve o s).1.pageCrossed)
        (f (effectiveAddress o s) { s with bus := s.bus ++ pointerCalls o s }) := by
  simp [jumpForm, resolve_snd, effectiveAddress]

/-- A branch answers a next state in which only `PC` and the cycle count may differ. -/
theorem branchForm_eq (op d : Byte) (cond : Status → Bool) (s : State) :
    branchForm op d cond s =
      retire op (branchPenalty (cond s.P) (differentPage (s.PC + sext16 d) s.PC))
        { s with PC := if cond s.P then s.PC + sext16 d else s.PC } := by
  cases h : cond s.P <;>
    simp [branchForm, h, resolve, Resolved.indexed, EffectiveOperand.ea, State.On.setPC]

/-- A halting form sets `halted` and returns no cycle count. -/
theorem haltForm_eq (s : State) : haltForm s = .next { s with halted := true, cycles := none } := rfl

/-- An unimplemented form never answers a next state. -/
theorem unimplementedForm_eq (op : Byte) (s : State) :
    unimplementedForm op s = .refused (.unimplementedBehavior op (s.PC - 1)) := rfl

end Sys2Proof.Machine
end

