-- ==== Sys2Proof/Laws/PerInstr.lean ====
section
/-! SUPPORT. One family of statements with a lemma for each constructor of `Instr` (LAWS.json): the instruction stands in
the row of the table that its opcode names (spec/30_encoding.md R52, R69). -/

namespace Sys2Proof.Laws

open Sys2Proof

/-- The row that `lookup` gives for the instruction's opcode has that opcode, the instruction's mnemonic and the mode of its
operand. -/
def Row.Statement (i : Instr) : Prop :=
  i.descriptor.opcode = i.opcode ∧ i.descriptor.mnemonic = i.mnemonic ∧ i.descriptor.mode = i.operand.mode

/-- The statement from the row of a literal opcode byte. -/
theorem Row.of {i : Instr} {op : Byte} {m : Mnemonic} {md : Mode} (ho : i.opcode = op) (hm : i.mnemonic = m)
    (hmd : i.operand.mode = md) (h : (lookup op).opcode = op ∧ (lookup op).mnemonic = m ∧ (lookup op).mode = md) :
    Row.Statement i := by
  subst ho hm hmd
  exact h

theorem Row.brk : Row.Statement .brk := Row.of (op := 0x00) rfl rfl rfl ⟨rfl, rfl, rfl⟩
theorem Row.oraIzx (b : Byte) : Row.Statement (.oraIzx b) := Row.of (op := 0x01) rfl rfl rfl ⟨rfl, rfl, rfl⟩
theorem Row.jam02 : Row.Statement .jam02 := Row.of (op := 0x02) rfl rfl rfl ⟨rfl, rfl, rfl⟩
theorem Row.sloIzx (b : Byte) : Row.Statement (.sloIzx b) := Row.of (op := 0x03) rfl rfl rfl ⟨rfl, rfl, rfl⟩
theorem Row.nopZp04 (b : Byte) : Row.Statement (.nopZp04 b) := Row.of (op := 0x04) rfl rfl rfl ⟨rfl, rfl, rfl⟩
theorem Row.oraZp (b : Byte) : Row.Statement (.oraZp b) := Row.of (op := 0x05) rfl rfl rfl ⟨rfl, rfl, rfl⟩
theorem Row.aslZp (b : Byte) : Row.Statement (.aslZp b) := Row.of (op := 0x06) rfl rfl rfl ⟨rfl, rfl, rfl⟩
theorem Row.sloZp (b : Byte) : Row.Statement (.sloZp b) := Row.of (op := 0x07) rfl rfl rfl ⟨rfl, rfl, rfl⟩
theorem Row.php : Row.Statement .php := Row.of (op := 0x08) rfl rfl rfl ⟨rfl, rfl, rfl⟩
theorem Row.oraImm (b : Byte) : Row.Statement (.oraImm b) := Row.of (op := 0x09) rfl rfl rfl ⟨rfl, rfl, rfl⟩
theorem Row.aslAcc : Row.Statement .aslAcc := Row.of (op := 0x0A) rfl rfl rfl ⟨rfl, rfl, rfl⟩
theorem Row.ancImm0B (b : Byte) : Row.Statement (.ancImm0B b) := Row.of (op := 0x0B) rfl rfl rfl ⟨rfl, rfl, rfl⟩
theorem Row.nopAbs (w : Addr) : Row.Statement (.nopAbs w) := Row.of (op := 0x0C) rfl rfl rfl ⟨rfl, rfl, rfl⟩
theorem Row.oraAbs (w : Addr) : Row.Statement (.oraAbs w) := Row.of (op := 0x0D) rfl rfl rfl ⟨rfl, rfl, rfl⟩
theorem Row.aslAbs (w : Addr) : Row.Statement (.aslAbs w) := Row.of (op := 0x0E) rfl rfl rfl ⟨rfl, rfl, rfl⟩
theorem Row.sloAbs (w : Addr) : Row.Statement (.sloAbs w) := Row.of (op := 0x0F) rfl rfl rfl ⟨rfl, rfl, rfl⟩
theorem Row.bpl (d : Byte) : Row.Statement (.bpl d) := Row.of (op := 0x10) rfl rfl rfl ⟨rfl, rfl, rfl⟩
theorem Row.oraIzy (b : Byte) : Row.Statement (.oraIzy b) := Row.of (op := 0x11) rfl rfl rfl ⟨rfl, rfl, rfl⟩
theorem Row.jam12 : Row.Statement .jam12 := Row.of (op := 0x12) rfl rfl rfl ⟨rfl, rfl, rfl⟩
theorem Row.sloIzy (b : Byte) : Row.Statement (.sloIzy b) := Row.of (op := 0x13) rfl rfl rfl ⟨rfl, rfl, rfl⟩
theorem Row.nopZpx14 (b : Byte) : Row.Statement (.nopZpx14 b) := Row.of (op := 0x14) rfl rfl rfl ⟨rfl, rfl, rfl⟩
theorem Row.oraZpx (b : Byte) : Row.Statement (.oraZpx b) := Row.of (op := 0x15) rfl rfl rfl ⟨rfl, rfl, rfl⟩
theorem Row.aslZpx (b : Byte) : Row.Statement (.aslZpx b) := Row.of (op := 0x16) rfl rfl rfl ⟨rfl, rfl, rfl⟩
theorem Row.sloZpx (b : Byte) : Row.Statement (.sloZpx b) := Row.of (op := 0x17) rfl rfl rfl ⟨rfl, rfl, rfl⟩
theorem Row.clc : Row.Statement .clc := Row.of (op := 0x18) rfl rfl rfl ⟨rfl, rfl, rfl⟩
theorem Row.oraAby (w : Addr) : Row.Statement (.oraAby w) := Row.of (op := 0x19) rfl rfl rfl ⟨rfl, rfl, rfl⟩
theorem Row.nop1A : Row.Statement .nop1A := Row.of (op := 0x1A) rfl rfl rfl ⟨rfl, rfl, rfl⟩
theorem Row.sloAby (w : Addr) : Row.Statement (.sloAby w) := Row.of (op := 0x1B) rfl rfl rfl ⟨rfl, rfl, rfl⟩
theorem Row.nopAbx1C (w : Addr) : Row.Statement (.nopAbx1C w) := Row.of (op := 0x1C) rfl rfl rfl ⟨rfl, rfl, rfl⟩
theorem Row.oraAbx (w : Addr) : Row.Statement (.oraAbx w) := Row.of (op := 0x1D) rfl rfl rfl ⟨rfl, rfl, rfl⟩
theorem Row.aslAbx (w : Addr) : Row.Statement (.aslAbx w) := Row.of (op := 0x1E) rfl rfl rfl ⟨rfl, rfl, rfl⟩
theorem Row.sloAbx (w : Addr) : Row.Statement (.sloAbx w) := Row.of (op := 0x1F) rfl rfl rfl ⟨rfl, rfl, rfl⟩
theorem Row.jsr (w : Addr) : Row.Statement (.jsr w) := Row.of (op := 0x20) rfl rfl rfl ⟨rfl, rfl, rfl⟩
theorem Row.andIzx (b : Byte) : Row.Statement (.andIzx b) := Row.of (op := 0x21) rfl rfl rfl ⟨rfl, rfl, rfl⟩
theorem Row.jam22 : Row.Statement .jam22 := Row.of (op := 0x22) rfl rfl rfl ⟨rfl, rfl, rfl⟩
theorem Row.rlaIzx (b : Byte) : Row.Statement (.rlaIzx b) := Row.of (op := 0x23) rfl rfl rfl ⟨rfl, rfl, rfl⟩
theorem Row.bitZp (b : Byte) : Row.Statement (.bitZp b) := Row.of (op := 0x24) rfl rfl rfl ⟨rfl, rfl, rfl⟩
theorem Row.andZp (b : Byte) : Row.Statement (.andZp b) := Row.of (op := 0x25) rfl rfl rfl ⟨rfl, rfl, rfl⟩
theorem Row.rolZp (b : Byte) : Row.Statement (.rolZp b) := Row.of (op := 0x26) rfl rfl rfl ⟨rfl, rfl, rfl⟩
theorem Row.rlaZp (b : Byte) : Row.Statement (.rlaZp b) := Row.of (op := 0x27) rfl rfl rfl ⟨rfl, rfl, rfl⟩
theorem Row.plp : Row.Statement .plp := Row.of (op := 0x28) rfl rfl rfl ⟨rfl, rfl, rfl⟩
theorem Row.andImm (b : Byte) : Row.Statement (.andImm b) := Row.of (op := 0x29) rfl rfl rfl ⟨rfl, rfl, rfl⟩
theorem Row.rolAcc : Row.Statement .rolAcc := Row.of (op := 0x2A) rfl rfl rfl ⟨rfl, rfl, rfl⟩
theorem Row.ancImm2B (b : Byte) : Row.Statement (.ancImm2B b) := Row.of (op := 0x2B) rfl rfl rfl ⟨rfl, rfl, rfl⟩
theorem Row.bitAbs (w : Addr) : Row.Statement (.bitAbs w) := Row.of (op := 0x2C) rfl rfl rfl ⟨rfl, rfl, rfl⟩
theorem Row.andAbs (w : Addr) : Row.Statement (.andAbs w) := Row.of (op := 0x2D) rfl rfl rfl ⟨rfl, rfl, rfl⟩
theorem Row.rolAbs (w : Addr) : Row.Statement (.rolAbs w) := Row.of (op := 0x2E) rfl rfl rfl ⟨rfl, rfl, rfl⟩
theorem Row.rlaAbs (w : Addr) : Row.Statement (.rlaAbs w) := Row.of (op := 0x2F) rfl rfl rfl ⟨rfl, rfl, rfl⟩
theorem Row.bmi (d : Byte) : Row.Statement (.bmi d) := Row.of (op := 0x30) rfl rfl rfl ⟨rfl, rfl, rfl⟩
theorem Row.andIzy (b : Byte) : Row.Statement (.andIzy b) := Row.of (op := 0x31) rfl rfl rfl ⟨rfl, rfl, rfl⟩
theorem Row.jam32 : Row.Statement .jam32 := Row.of (op := 0x32) rfl rfl rfl ⟨rfl, rfl, rfl⟩
theorem Row.rlaIzy (b : Byte) : Row.Statement (.rlaIzy b) := Row.of (op := 0x33) rfl rfl rfl ⟨rfl, rfl, rfl⟩
theorem Row.nopZpx34 (b : Byte) : Row.Statement (.nopZpx34 b) := Row.of (op := 0x34) rfl rfl rfl ⟨rfl, rfl, rfl⟩
theorem Row.andZpx (b : Byte) : Row.Statement (.andZpx b) := Row.of (op := 0x35) rfl rfl rfl ⟨rfl, rfl, rfl⟩
theorem Row.rolZpx (b : Byte) : Row.Statement (.rolZpx b) := Row.of (op := 0x36) rfl rfl rfl ⟨rfl, rfl, rfl⟩
theorem Row.rlaZpx (b : Byte) : Row.Statement (.rlaZpx b) := Row.of (op := 0x37) rfl rfl rfl ⟨rfl, rfl, rfl⟩
theorem Row.sec : Row.Statement .sec := Row.of (op := 0x38) rfl rfl rfl ⟨rfl, rfl, rfl⟩
theorem Row.andAby (w : Addr) : Row.Statement (.andAby w) := Row.of (op := 0x39) rfl rfl rfl ⟨rfl, rfl, rfl⟩
theorem Row.nop3A : Row.Statement .nop3A := Row.of (op := 0x3A) rfl rfl rfl ⟨rfl, rfl, rfl⟩
theorem Row.rlaAby (w : Addr) : Row.Statement (.rlaAby w) := Row.of (op := 0x3B) rfl rfl rfl ⟨rfl, rfl, rfl⟩
theorem Row.nopAbx3C (w : Addr) : Row.Statement (.nopAbx3C w) := Row.of (op := 0x3C) rfl rfl rfl ⟨rfl, rfl, rfl⟩
theorem Row.andAbx (w : Addr) : Row.Statement (.andAbx w) := Row.of (op := 0x3D) rfl rfl rfl ⟨rfl, rfl, rfl⟩
theorem Row.rolAbx (w : Addr) : Row.Statement (.rolAbx w) := Row.of (op := 0x3E) rfl rfl rfl ⟨rfl, rfl, rfl⟩
theorem Row.rlaAbx (w : Addr) : Row.Statement (.rlaAbx w) := Row.of (op := 0x3F) rfl rfl rfl ⟨rfl, rfl, rfl⟩
theorem Row.rti : Row.Statement .rti := Row.of (op := 0x40) rfl rfl rfl ⟨rfl, rfl, rfl⟩
theorem Row.eorIzx (b : Byte) : Row.Statement (.eorIzx b) := Row.of (op := 0x41) rfl rfl rfl ⟨rfl, rfl, rfl⟩
theorem Row.jam42 : Row.Statement .jam42 := Row.of (op := 0x42) rfl rfl rfl ⟨rfl, rfl, rfl⟩
theorem Row.sreIzx (b : Byte) : Row.Statement (.sreIzx b) := Row.of (op := 0x43) rfl rfl rfl ⟨rfl, rfl, rfl⟩
theorem Row.nopZp44 (b : Byte) : Row.Statement (.nopZp44 b) := Row.of (op := 0x44) rfl rfl rfl ⟨rfl, rfl, rfl⟩
theorem Row.eorZp (b : Byte) : Row.Statement (.eorZp b) := Row.of (op := 0x45) rfl rfl rfl ⟨rfl, rfl, rfl⟩
theorem Row.lsrZp (b : Byte) : Row.Statement (.lsrZp b) := Row.of (op := 0x46) rfl rfl rfl ⟨rfl, rfl, rfl⟩
theorem Row.sreZp (b : Byte) : Row.Statement (.sreZp b) := Row.of (op := 0x47) rfl rfl rfl ⟨rfl, rfl, rfl⟩
theorem Row.pha : Row.Statement .pha := Row.of (op := 0x48) rfl rfl rfl ⟨rfl, rfl, rfl⟩
theorem Row.eorImm (b : Byte) : Row.Statement (.eorImm b) := Row.of (op := 0x49) rfl rfl rfl ⟨rfl, rfl, rfl⟩
theorem Row.lsrAcc : Row.Statement .lsrAcc := Row.of (op := 0x4A) rfl rfl rfl ⟨rfl, rfl, rfl⟩
theorem Row.alrImm (b : Byte) : Row.Statement (.alrImm b) := Row.of (op := 0x4B) rfl rfl rfl ⟨rfl, rfl, rfl⟩
theorem Row.jmpAbs (w : Addr) : Row.Statement (.jmpAbs w) := Row.of (op := 0x4C) rfl rfl rfl ⟨rfl, rfl, rfl⟩
theorem Row.eorAbs (w : Addr) : Row.Statement (.eorAbs w) := Row.of (op := 0x4D) rfl rfl rfl ⟨rfl, rfl, rfl⟩
theorem Row.lsrAbs (w : Addr) : Row.Statement (.lsrAbs w) := Row.of (op := 0x4E) rfl rfl rfl ⟨rfl, rfl, rfl⟩
theorem Row.sreAbs (w : Addr) : Row.Statement (.sreAbs w) := Row.of (op := 0x4F) rfl rfl rfl ⟨rfl, rfl, rfl⟩
theorem Row.bvc (d : Byte) : Row.Statement (.bvc d) := Row.of (op := 0x50) rfl rfl rfl ⟨rfl, rfl, rfl⟩
theorem Row.eorIzy (b : Byte) : Row.Statement (.eorIzy b) := Row.of (op := 0x51) rfl rfl rfl ⟨rfl, rfl, rfl⟩
theorem Row.jam52 : Row.Statement .jam52 := Row.of (op := 0x52) rfl rfl rfl ⟨rfl, rfl, rfl⟩
theorem Row.sreIzy (b : Byte) : Row.Statement (.sreIzy b) := Row.of (op := 0x53) rfl rfl rfl ⟨rfl, rfl, rfl⟩
theorem Row.nopZpx54 (b : Byte) : Row.Statement (.nopZpx54 b) := Row.of (op := 0x54) rfl rfl rfl ⟨rfl, rfl, rfl⟩
theorem Row.eorZpx (b : Byte) : Row.Statement (.eorZpx b) := Row.of (op := 0x55) rfl rfl rfl ⟨rfl, rfl, rfl⟩
theorem Row.lsrZpx (b : Byte) : Row.Statement (.lsrZpx b) := Row.of (op := 0x56) rfl rfl rfl ⟨rfl, rfl, rfl⟩
theorem Row.sreZpx (b : Byte) : Row.Statement (.sreZpx b) := Row.of (op := 0x57) rfl rfl rfl ⟨rfl, rfl, rfl⟩
theorem Row.cli : Row.Statement .cli := Row.of (op := 0x58) rfl rfl rfl ⟨rfl, rfl, rfl⟩
theorem Row.eorAby (w : Addr) : Row.Statement (.eorAby w) := Row.of (op := 0x59) rfl rfl rfl ⟨rfl, rfl, rfl⟩
theorem Row.nop5A : Row.Statement .nop5A := Row.of (op := 0x5A) rfl rfl rfl ⟨rfl, rfl, rfl⟩
theorem Row.sreAby (w : Addr) : Row.Statement (.sreAby w) := Row.of (op := 0x5B) rfl rfl rfl ⟨rfl, rfl, rfl⟩
theorem Row.nopAbx5C (w : Addr) : Row.Statement (.nopAbx5C w) := Row.of (op := 0x5C) rfl rfl rfl ⟨rfl, rfl, rfl⟩
theorem Row.eorAbx (w : Addr) : Row.Statement (.eorAbx w) := Row.of (op := 0x5D) rfl rfl rfl ⟨rfl, rfl, rfl⟩
theorem Row.lsrAbx (w : Addr) : Row.Statement (.lsrAbx w) := Row.of (op := 0x5E) rfl rfl rfl ⟨rfl, rfl, rfl⟩
theorem Row.sreAbx (w : Addr) : Row.Statement (.sreAbx w) := Row.of (op := 0x5F) rfl rfl rfl ⟨rfl, rfl, rfl⟩
theorem Row.rts : Row.Statement .rts := Row.of (op := 0x60) rfl rfl rfl ⟨rfl, rfl, rfl⟩
theorem Row.adcIzx (b : Byte) : Row.Statement (.adcIzx b) := Row.of (op := 0x61) rfl rfl rfl ⟨rfl, rfl, rfl⟩
theorem Row.jam62 : Row.Statement .jam62 := Row.of (op := 0x62) rfl rfl rfl ⟨rfl, rfl, rfl⟩
theorem Row.rraIzx (b : Byte) : Row.Statement (.rraIzx b) := Row.of (op := 0x63) rfl rfl rfl ⟨rfl, rfl, rfl⟩
theorem Row.nopZp64 (b : Byte) : Row.Statement (.nopZp64 b) := Row.of (op := 0x64) rfl rfl rfl ⟨rfl, rfl, rfl⟩
theorem Row.adcZp (b : Byte) : Row.Statement (.adcZp b) := Row.of (op := 0x65) rfl rfl rfl ⟨rfl, rfl, rfl⟩
theorem Row.rorZp (b : Byte) : Row.Statement (.rorZp b) := Row.of (op := 0x66) rfl rfl rfl ⟨rfl, rfl, rfl⟩
theorem Row.rraZp (b : Byte) : Row.Statement (.rraZp b) := Row.of (op := 0x67) rfl rfl rfl ⟨rfl, rfl, rfl⟩
theorem Row.pla : Row.Statement .pla := Row.of (op := 0x68) rfl rfl rfl ⟨rfl, rfl, rfl⟩
theorem Row.adcImm (b : Byte) : Row.Statement (.adcImm b) := Row.of (op := 0x69) rfl rfl rfl ⟨rfl, rfl, rfl⟩
theorem Row.rorAcc : Row.Statement .rorAcc := Row.of (op := 0x6A) rfl rfl rfl ⟨rfl, rfl, rfl⟩
theorem Row.arrImm (b : Byte) : Row.Statement (.arrImm b) := Row.of (op := 0x6B) rfl rfl rfl ⟨rfl, rfl, rfl⟩
theorem Row.jmpInd (w : Addr) : Row.Statement (.jmpInd w) := Row.of (op := 0x6C) rfl rfl rfl ⟨rfl, rfl, rfl⟩
theorem Row.adcAbs (w : Addr) : Row.Statement (.adcAbs w) := Row.of (op := 0x6D) rfl rfl rfl ⟨rfl, rfl, rfl⟩
theorem Row.rorAbs (w : Addr) : Row.Statement (.rorAbs w) := Row.of (op := 0x6E) rfl rfl rfl ⟨rfl, rfl, rfl⟩
theorem Row.rraAbs (w : Addr) : Row.Statement (.rraAbs w) := Row.of (op := 0x6F) rfl rfl rfl ⟨rfl, rfl, rfl⟩
theorem Row.bvs (d : Byte) : Row.Statement (.bvs d) := Row.of (op := 0x70) rfl rfl rfl ⟨rfl, rfl, rfl⟩
theorem Row.adcIzy (b : Byte) : Row.Statement (.adcIzy b) := Row.of (op := 0x71) rfl rfl rfl ⟨rfl, rfl, rfl⟩
theorem Row.jam72 : Row.Statement .jam72 := Row.of (op := 0x72) rfl rfl rfl ⟨rfl, rfl, rfl⟩
theorem Row.rraIzy (b : Byte) : Row.Statement (.rraIzy b) := Row.of (op := 0x73) rfl rfl rfl ⟨rfl, rfl, rfl⟩
theorem Row.nopZpx74 (b : Byte) : Row.Statement (.nopZpx74 b) := Row.of (op := 0x74) rfl rfl rfl ⟨rfl, rfl, rfl⟩
theorem Row.adcZpx (b : Byte) : Row.Statement (.adcZpx b) := Row.of (op := 0x75) rfl rfl rfl ⟨rfl, rfl, rfl⟩
theorem Row.rorZpx (b : Byte) : Row.Statement (.rorZpx b) := Row.of (op := 0x76) rfl rfl rfl ⟨rfl, rfl, rfl⟩
theorem Row.rraZpx (b : Byte) : Row.Statement (.rraZpx b) := Row.of (op := 0x77) rfl rfl rfl ⟨rfl, rfl, rfl⟩
theorem Row.sei : Row.Statement .sei := Row.of (op := 0x78) rfl rfl rfl ⟨rfl, rfl, rfl⟩
theorem Row.adcAby (w : Addr) : Row.Statement (.adcAby w) := Row.of (op := 0x79) rfl rfl rfl ⟨rfl, rfl, rfl⟩
theorem Row.nop7A : Row.Statement .nop7A := Row.of (op := 0x7A) rfl rfl rfl ⟨rfl, rfl, rfl⟩
theorem Row.rraAby (w : Addr) : Row.Statement (.rraAby w) := Row.of (op := 0x7B) rfl rfl rfl ⟨rfl, rfl, rfl⟩
theorem Row.nopAbx7C (w : Addr) : Row.Statement (.nopAbx7C w) := Row.of (op := 0x7C) rfl rfl rfl ⟨rfl, rfl, rfl⟩
theorem Row.adcAbx (w : Addr) : Row.Statement (.adcAbx w) := Row.of (op := 0x7D) rfl rfl rfl ⟨rfl, rfl, rfl⟩
theorem Row.rorAbx (w : Addr) : Row.Statement (.rorAbx w) := Row.of (op := 0x7E) rfl rfl rfl ⟨rfl, rfl, rfl⟩
theorem Row.rraAbx (w : Addr) : Row.Statement (.rraAbx w) := Row.of (op := 0x7F) rfl rfl rfl ⟨rfl, rfl, rfl⟩
theorem Row.nopImm80 (b : Byte) : Row.Statement (.nopImm80 b) := Row.of (op := 0x80) rfl rfl rfl ⟨rfl, rfl, rfl⟩
theorem Row.staIzx (b : Byte) : Row.Statement (.staIzx b) := Row.of (op := 0x81) rfl rfl rfl ⟨rfl, rfl, rfl⟩
theorem Row.nopImm82 (b : Byte) : Row.Statement (.nopImm82 b) := Row.of (op := 0x82) rfl rfl rfl ⟨rfl, rfl, rfl⟩
theorem Row.saxIzx (b : Byte) : Row.Statement (.saxIzx b) := Row.of (op := 0x83) rfl rfl rfl ⟨rfl, rfl, rfl⟩
theorem Row.styZp (b : Byte) : Row.Statement (.styZp b) := Row.of (op := 0x84) rfl rfl rfl ⟨rfl, rfl, rfl⟩
theorem Row.staZp (b : Byte) : Row.Statement (.staZp b) := Row.of (op := 0x85) rfl rfl rfl ⟨rfl, rfl, rfl⟩
theorem Row.stxZp (b : Byte) : Row.Statement (.stxZp b) := Row.of (op := 0x86) rfl rfl rfl ⟨rfl, rfl, rfl⟩
theorem Row.saxZp (b : Byte) : Row.Statement (.saxZp b) := Row.of (op := 0x87) rfl rfl rfl ⟨rfl, rfl, rfl⟩
theorem Row.dey : Row.Statement .dey := Row.of (op := 0x88) rfl rfl rfl ⟨rfl, rfl, rfl⟩
theorem Row.nopImm89 (b : Byte) : Row.Statement (.nopImm89 b) := Row.of (op := 0x89) rfl rfl rfl ⟨rfl, rfl, rfl⟩
theorem Row.txa : Row.Statement .txa := Row.of (op := 0x8A) rfl rfl rfl ⟨rfl, rfl, rfl⟩
theorem Row.aneImm (b : Byte) : Row.Statement (.aneImm b) := Row.of (op := 0x8B) rfl rfl rfl ⟨rfl, rfl, rfl⟩
theorem Row.styAbs (w : Addr) : Row.Statement (.styAbs w) := Row.of (op := 0x8C) rfl rfl rfl ⟨rfl, rfl, rfl⟩
theorem Row.staAbs (w : Addr) : Row.Statement (.staAbs w) := Row.of (op := 0x8D) rfl rfl rfl ⟨rfl, rfl, rfl⟩
theorem Row.stxAbs (w : Addr) : Row.Statement (.stxAbs w) := Row.of (op := 0x8E) rfl rfl rfl ⟨rfl, rfl, rfl⟩
theorem Row.saxAbs (w : Addr) : Row.Statement (.saxAbs w) := Row.of (op := 0x8F) rfl rfl rfl ⟨rfl, rfl, rfl⟩
theorem Row.bcc (d : Byte) : Row.Statement (.bcc d) := Row.of (op := 0x90) rfl rfl rfl ⟨rfl, rfl, rfl⟩
theorem Row.staIzy (b : Byte) : Row.Statement (.staIzy b) := Row.of (op := 0x91) rfl rfl rfl ⟨rfl, rfl, rfl⟩
theorem Row.jam92 : Row.Statement .jam92 := Row.of (op := 0x92) rfl rfl rfl ⟨rfl, rfl, rfl⟩
theorem Row.shaIzy (b : Byte) : Row.Statement (.shaIzy b) := Row.of (op := 0x93) rfl rfl rfl ⟨rfl, rfl, rfl⟩
theorem Row.styZpx (b : Byte) : Row.Statement (.styZpx b) := Row.of (op := 0x94) rfl rfl rfl ⟨rfl, rfl, rfl⟩
theorem Row.staZpx (b : Byte) : Row.Statement (.staZpx b) := Row.of (op := 0x95) rfl rfl rfl ⟨rfl, rfl, rfl⟩
theorem Row.stxZpy (b : Byte) : Row.Statement (.stxZpy b) := Row.of (op := 0x96) rfl rfl rfl ⟨rfl, rfl, rfl⟩
theorem Row.saxZpy (b : Byte) : Row.Statement (.saxZpy b) := Row.of (op := 0x97) rfl rfl rfl ⟨rfl, rfl, rfl⟩
theorem Row.tya : Row.Statement .tya := Row.of (op := 0x98) rfl rfl rfl ⟨rfl, rfl, rfl⟩
theorem Row.staAby (w : Addr) : Row.Statement (.staAby w) := Row.of (op := 0x99) rfl rfl rfl ⟨rfl, rfl, rfl⟩
theorem Row.txs : Row.Statement .txs := Row.of (op := 0x9A) rfl rfl rfl ⟨rfl, rfl, rfl⟩
theorem Row.tasAby (w : Addr) : Row.Statement (.tasAby w) := Row.of (op := 0x9B) rfl rfl rfl ⟨rfl, rfl, rfl⟩
theorem Row.shyAbx (w : Addr) : Row.Statement (.shyAbx w) := Row.of (op := 0x9C) rfl rfl rfl ⟨rfl, rfl, rfl⟩
theorem Row.staAbx (w : Addr) : Row.Statement (.staAbx w) := Row.of (op := 0x9D) rfl rfl rfl ⟨rfl, rfl, rfl⟩
theorem Row.shxAby (w : Addr) : Row.Statement (.shxAby w) := Row.of (op := 0x9E) rfl rfl rfl ⟨rfl, rfl, rfl⟩
theorem Row.shaAby (w : Addr) : Row.Statement (.shaAby w) := Row.of (op := 0x9F) rfl rfl rfl ⟨rfl, rfl, rfl⟩
theorem Row.ldyImm (b : Byte) : Row.Statement (.ldyImm b) := Row.of (op := 0xA0) rfl rfl rfl ⟨rfl, rfl, rfl⟩
theorem Row.ldaIzx (b : Byte) : Row.Statement (.ldaIzx b) := Row.of (op := 0xA1) rfl rfl rfl ⟨rfl, rfl, rfl⟩
theorem Row.ldxImm (b : Byte) : Row.Statement (.ldxImm b) := Row.of (op := 0xA2) rfl rfl rfl ⟨rfl, rfl, rfl⟩
theorem Row.laxIzx (b : Byte) : Row.Statement (.laxIzx b) := Row.of (op := 0xA3) rfl rfl rfl ⟨rfl, rfl, rfl⟩
theorem Row.ldyZp (b : Byte) : Row.Statement (.ldyZp b) := Row.of (op := 0xA4) rfl rfl rfl ⟨rfl, rfl, rfl⟩
theorem Row.ldaZp (b : Byte) : Row.Statement (.ldaZp b) := Row.of (op := 0xA5) rfl rfl rfl ⟨rfl, rfl, rfl⟩
theorem Row.ldxZp (b : Byte) : Row.Statement (.ldxZp b) := Row.of (op := 0xA6) rfl rfl rfl ⟨rfl, rfl, rfl⟩
theorem Row.laxZp (b : Byte) : Row.Statement (.laxZp b) := Row.of (op := 0xA7) rfl rfl rfl ⟨rfl, rfl, rfl⟩
theorem Row.tay : Row.Statement .tay := Row.of (op := 0xA8) rfl rfl rfl ⟨rfl, rfl, rfl⟩
theorem Row.ldaImm (b : Byte) : Row.Statement (.ldaImm b) := Row.of (op := 0xA9) rfl rfl rfl ⟨rfl, rfl, rfl⟩
theorem Row.tax : Row.Statement .tax := Row.of (op := 0xAA) rfl rfl rfl ⟨rfl, rfl, rfl⟩
theorem Row.lxaImm (b : Byte) : Row.Statement (.lxaImm b) := Row.of (op := 0xAB) rfl rfl rfl ⟨rfl, rfl, rfl⟩
theorem Row.ldyAbs (w : Addr) : Row.Statement (.ldyAbs w) := Row.of (op := 0xAC) rfl rfl rfl ⟨rfl, rfl, rfl⟩
theorem Row.ldaAbs (w : Addr) : Row.Statement (.ldaAbs w) := Row.of (op := 0xAD) rfl rfl rfl ⟨rfl, rfl, rfl⟩
theorem Row.ldxAbs (w : Addr) : Row.Statement (.ldxAbs w) := Row.of (op := 0xAE) rfl rfl rfl ⟨rfl, rfl, rfl⟩
theorem Row.laxAbs (w : Addr) : Row.Statement (.laxAbs w) := Row.of (op := 0xAF) rfl rfl rfl ⟨rfl, rfl, rfl⟩
theorem Row.bcs (d : Byte) : Row.Statement (.bcs d) := Row.of (op := 0xB0) rfl rfl rfl ⟨rfl, rfl, rfl⟩
theorem Row.ldaIzy (b : Byte) : Row.Statement (.ldaIzy b) := Row.of (op := 0xB1) rfl rfl rfl ⟨rfl, rfl, rfl⟩
theorem Row.jamB2 : Row.Statement .jamB2 := Row.of (op := 0xB2) rfl rfl rfl ⟨rfl, rfl, rfl⟩
theorem Row.laxIzy (b : Byte) : Row.Statement (.laxIzy b) := Row.of (op := 0xB3) rfl rfl rfl ⟨rfl, rfl, rfl⟩
theorem Row.ldyZpx (b : Byte) : Row.Statement (.ldyZpx b) := Row.of (op := 0xB4) rfl rfl rfl ⟨rfl, rfl, rfl⟩
theorem Row.ldaZpx (b : Byte) : Row.Statement (.ldaZpx b) := Row.of (op := 0xB5) rfl rfl rfl ⟨rfl, rfl, rfl⟩
theorem Row.ldxZpy (b : Byte) : Row.Statement (.ldxZpy b) := Row.of (op := 0xB6) rfl rfl rfl ⟨rfl, rfl, rfl⟩
theorem Row.laxZpy (b : Byte) : Row.Statement (.laxZpy b) := Row.of (op := 0xB7) rfl rfl rfl ⟨rfl, rfl, rfl⟩
theorem Row.clv : Row.Statement .clv := Row.of (op := 0xB8) rfl rfl rfl ⟨rfl, rfl, rfl⟩
theorem Row.ldaAby (w : Addr) : Row.Statement (.ldaAby w) := Row.of (op := 0xB9) rfl rfl rfl ⟨rfl, rfl, rfl⟩
theorem Row.tsx : Row.Statement .tsx := Row.of (op := 0xBA) rfl rfl rfl ⟨rfl, rfl, rfl⟩
theorem Row.lasAby (w : Addr) : Row.Statement (.lasAby w) := Row.of (op := 0xBB) rfl rfl rfl ⟨rfl, rfl, rfl⟩
theorem Row.ldyAbx (w : Addr) : Row.Statement (.ldyAbx w) := Row.of (op := 0xBC) rfl rfl rfl ⟨rfl, rfl, rfl⟩
theorem Row.ldaAbx (w : Addr) : Row.Statement (.ldaAbx w) := Row.of (op := 0xBD) rfl rfl rfl ⟨rfl, rfl, rfl⟩
theorem Row.ldxAby (w : Addr) : Row.Statement (.ldxAby w) := Row.of (op := 0xBE) rfl rfl rfl ⟨rfl, rfl, rfl⟩
theorem Row.laxAby (w : Addr) : Row.Statement (.laxAby w) := Row.of (op := 0xBF) rfl rfl rfl ⟨rfl, rfl, rfl⟩
theorem Row.cpyImm (b : Byte) : Row.Statement (.cpyImm b) := Row.of (op := 0xC0) rfl rfl rfl ⟨rfl, rfl, rfl⟩
theorem Row.cmpIzx (b : Byte) : Row.Statement (.cmpIzx b) := Row.of (op := 0xC1) rfl rfl rfl ⟨rfl, rfl, rfl⟩
theorem Row.nopImmC2 (b : Byte) : Row.Statement (.nopImmC2 b) := Row.of (op := 0xC2) rfl rfl rfl ⟨rfl, rfl, rfl⟩
theorem Row.dcpIzx (b : Byte) : Row.Statement (.dcpIzx b) := Row.of (op := 0xC3) rfl rfl rfl ⟨rfl, rfl, rfl⟩
theorem Row.cpyZp (b : Byte) : Row.Statement (.cpyZp b) := Row.of (op := 0xC4) rfl rfl rfl ⟨rfl, rfl, rfl⟩
theorem Row.cmpZp (b : Byte) : Row.Statement (.cmpZp b) := Row.of (op := 0xC5) rfl rfl rfl ⟨rfl, rfl, rfl⟩
theorem Row.decZp (b : Byte) : Row.Statement (.decZp b) := Row.of (op := 0xC6) rfl rfl rfl ⟨rfl, rfl, rfl⟩
theorem Row.dcpZp (b : Byte) : Row.Statement (.dcpZp b) := Row.of (op := 0xC7) rfl rfl rfl ⟨rfl, rfl, rfl⟩
theorem Row.iny : Row.Statement .iny := Row.of (op := 0xC8) rfl rfl rfl ⟨rfl, rfl, rfl⟩
theorem Row.cmpImm (b : Byte) : Row.Statement (.cmpImm b) := Row.of (op := 0xC9) rfl rfl rfl ⟨rfl, rfl, rfl⟩
theorem Row.dex : Row.Statement .dex := Row.of (op := 0xCA) rfl rfl rfl ⟨rfl, rfl, rfl⟩
theorem Row.sbxImm (b : Byte) : Row.Statement (.sbxImm b) := Row.of (op := 0xCB) rfl rfl rfl ⟨rfl, rfl, rfl⟩
theorem Row.cpyAbs (w : Addr) : Row.Statement (.cpyAbs w) := Row.of (op := 0xCC) rfl rfl rfl ⟨rfl, rfl, rfl⟩
theorem Row.cmpAbs (w : Addr) : Row.Statement (.cmpAbs w) := Row.of (op := 0xCD) rfl rfl rfl ⟨rfl, rfl, rfl⟩
theorem Row.decAbs (w : Addr) : Row.Statement (.decAbs w) := Row.of (op := 0xCE) rfl rfl rfl ⟨rfl, rfl, rfl⟩
theorem Row.dcpAbs (w : Addr) : Row.Statement (.dcpAbs w) := Row.of (op := 0xCF) rfl rfl rfl ⟨rfl, rfl, rfl⟩
theorem Row.bne (d : Byte) : Row.Statement (.bne d) := Row.of (op := 0xD0) rfl rfl rfl ⟨rfl, rfl, rfl⟩
theorem Row.cmpIzy (b : Byte) : Row.Statement (.cmpIzy b) := Row.of (op := 0xD1) rfl rfl rfl ⟨rfl, rfl, rfl⟩
theorem Row.jamD2 : Row.Statement .jamD2 := Row.of (op := 0xD2) rfl rfl rfl ⟨rfl, rfl, rfl⟩
theorem Row.dcpIzy (b : Byte) : Row.Statement (.dcpIzy b) := Row.of (op := 0xD3) rfl rfl rfl ⟨rfl, rfl, rfl⟩
theorem Row.nopZpxD4 (b : Byte) : Row.Statement (.nopZpxD4 b) := Row.of (op := 0xD4) rfl rfl rfl ⟨rfl, rfl, rfl⟩
theorem Row.cmpZpx (b : Byte) : Row.Statement (.cmpZpx b) := Row.of (op := 0xD5) rfl rfl rfl ⟨rfl, rfl, rfl⟩
theorem Row.decZpx (b : Byte) : Row.Statement (.decZpx b) := Row.of (op := 0xD6) rfl rfl rfl ⟨rfl, rfl, rfl⟩
theorem Row.dcpZpx (b : Byte) : Row.Statement (.dcpZpx b) := Row.of (op := 0xD7) rfl rfl rfl ⟨rfl, rfl, rfl⟩
theorem Row.cld : Row.Statement .cld := Row.of (op := 0xD8) rfl rfl rfl ⟨rfl, rfl, rfl⟩
theorem Row.cmpAby (w : Addr) : Row.Statement (.cmpAby w) := Row.of (op := 0xD9) rfl rfl rfl ⟨rfl, rfl, rfl⟩
theorem Row.nopDA : Row.Statement .nopDA := Row.of (op := 0xDA) rfl rfl rfl ⟨rfl, rfl, rfl⟩
theorem Row.dcpAby (w : Addr) : Row.Statement (.dcpAby w) := Row.of (op := 0xDB) rfl rfl rfl ⟨rfl, rfl, rfl⟩
theorem Row.nopAbxDC (w : Addr) : Row.Statement (.nopAbxDC w) := Row.of (op := 0xDC) rfl rfl rfl ⟨rfl, rfl, rfl⟩
theorem Row.cmpAbx (w : Addr) : Row.Statement (.cmpAbx w) := Row.of (op := 0xDD) rfl rfl rfl ⟨rfl, rfl, rfl⟩
theorem Row.decAbx (w : Addr) : Row.Statement (.decAbx w) := Row.of (op := 0xDE) rfl rfl rfl ⟨rfl, rfl, rfl⟩
theorem Row.dcpAbx (w : Addr) : Row.Statement (.dcpAbx w) := Row.of (op := 0xDF) rfl rfl rfl ⟨rfl, rfl, rfl⟩
theorem Row.cpxImm (b : Byte) : Row.Statement (.cpxImm b) := Row.of (op := 0xE0) rfl rfl rfl ⟨rfl, rfl, rfl⟩
theorem Row.sbcIzx (b : Byte) : Row.Statement (.sbcIzx b) := Row.of (op := 0xE1) rfl rfl rfl ⟨rfl, rfl, rfl⟩
theorem Row.nopImmE2 (b : Byte) : Row.Statement (.nopImmE2 b) := Row.of (op := 0xE2) rfl rfl rfl ⟨rfl, rfl, rfl⟩
theorem Row.iscIzx (b : Byte) : Row.Statement (.iscIzx b) := Row.of (op := 0xE3) rfl rfl rfl ⟨rfl, rfl, rfl⟩
theorem Row.cpxZp (b : Byte) : Row.Statement (.cpxZp b) := Row.of (op := 0xE4) rfl rfl rfl ⟨rfl, rfl, rfl⟩
theorem Row.sbcZp (b : Byte) : Row.Statement (.sbcZp b) := Row.of (op := 0xE5) rfl rfl rfl ⟨rfl, rfl, rfl⟩
theorem Row.incZp (b : Byte) : Row.Statement (.incZp b) := Row.of (op := 0xE6) rfl rfl rfl ⟨rfl, rfl, rfl⟩
theorem Row.iscZp (b : Byte) : Row.Statement (.iscZp b) := Row.of (op := 0xE7) rfl rfl rfl ⟨rfl, rfl, rfl⟩
theorem Row.inx : Row.Statement .inx := Row.of (op := 0xE8) rfl rfl rfl ⟨rfl, rfl, rfl⟩
theorem Row.sbcImm (b : Byte) : Row.Statement (.sbcImm b) := Row.of (op := 0xE9) rfl rfl rfl ⟨rfl, rfl, rfl⟩
theorem Row.nop : Row.Statement .nop := Row.of (op := 0xEA) rfl rfl rfl ⟨rfl, rfl, rfl⟩
theorem Row.sbcImmEB (b : Byte) : Row.Statement (.sbcImmEB b) := Row.of (op := 0xEB) rfl rfl rfl ⟨rfl, rfl, rfl⟩
theorem Row.cpxAbs (w : Addr) : Row.Statement (.cpxAbs w) := Row.of (op := 0xEC) rfl rfl rfl ⟨rfl, rfl, rfl⟩
theorem Row.sbcAbs (w : Addr) : Row.Statement (.sbcAbs w) := Row.of (op := 0xED) rfl rfl rfl ⟨rfl, rfl, rfl⟩
theorem Row.incAbs (w : Addr) : Row.Statement (.incAbs w) := Row.of (op := 0xEE) rfl rfl rfl ⟨rfl, rfl, rfl⟩
theorem Row.iscAbs (w : Addr) : Row.Statement (.iscAbs w) := Row.of (op := 0xEF) rfl rfl rfl ⟨rfl, rfl, rfl⟩
theorem Row.beq (d : Byte) : Row.Statement (.beq d) := Row.of (op := 0xF0) rfl rfl rfl ⟨rfl, rfl, rfl⟩
theorem Row.sbcIzy (b : Byte) : Row.Statement (.sbcIzy b) := Row.of (op := 0xF1) rfl rfl rfl ⟨rfl, rfl, rfl⟩
theorem Row.jamF2 : Row.Statement .jamF2 := Row.of (op := 0xF2) rfl rfl rfl ⟨rfl, rfl, rfl⟩
theorem Row.iscIzy (b : Byte) : Row.Statement (.iscIzy b) := Row.of (op := 0xF3) rfl rfl rfl ⟨rfl, rfl, rfl⟩
theorem Row.nopZpxF4 (b : Byte) : Row.Statement (.nopZpxF4 b) := Row.of (op := 0xF4) rfl rfl rfl ⟨rfl, rfl, rfl⟩
theorem Row.sbcZpx (b : Byte) : Row.Statement (.sbcZpx b) := Row.of (op := 0xF5) rfl rfl rfl ⟨rfl, rfl, rfl⟩
theorem Row.incZpx (b : Byte) : Row.Statement (.incZpx b) := Row.of (op := 0xF6) rfl rfl rfl ⟨rfl, rfl, rfl⟩
theorem Row.iscZpx (b : Byte) : Row.Statement (.iscZpx b) := Row.of (op := 0xF7) rfl rfl rfl ⟨rfl, rfl, rfl⟩
theorem Row.sed : Row.Statement .sed := Row.of (op := 0xF8) rfl rfl rfl ⟨rfl, rfl, rfl⟩
theorem Row.sbcAby (w : Addr) : Row.Statement (.sbcAby w) := Row.of (op := 0xF9) rfl rfl rfl ⟨rfl, rfl, rfl⟩
theorem Row.nopFA : Row.Statement .nopFA := Row.of (op := 0xFA) rfl rfl rfl ⟨rfl, rfl, rfl⟩
theorem Row.iscAby (w : Addr) : Row.Statement (.iscAby w) := Row.of (op := 0xFB) rfl rfl rfl ⟨rfl, rfl, rfl⟩
theorem Row.nopAbxFC (w : Addr) : Row.Statement (.nopAbxFC w) := Row.of (op := 0xFC) rfl rfl rfl ⟨rfl, rfl, rfl⟩
theorem Row.sbcAbx (w : Addr) : Row.Statement (.sbcAbx w) := Row.of (op := 0xFD) rfl rfl rfl ⟨rfl, rfl, rfl⟩
theorem Row.incAbx (w : Addr) : Row.Statement (.incAbx w) := Row.of (op := 0xFE) rfl rfl rfl ⟨rfl, rfl, rfl⟩
theorem Row.iscAbx (w : Addr) : Row.Statement (.iscAbx w) := Row.of (op := 0xFF) rfl rfl rfl ⟨rfl, rfl, rfl⟩

end Sys2Proof.Laws
end

