-- ==== Sys2Proof/Laws/Rows.lean ====
section
/-! SUPPORT. The family of Laws/PerInstr.lean joined: every instruction stands in the row its opcode names, so that a claim
about its descriptor follows from the 256 rows. -/

namespace Sys2Proof

theorem instr_row (i : Instr) : Laws.Row.Statement i := by
  cases i with
  | brk => exact Laws.Row.brk
  | oraIzx b => exact Laws.Row.oraIzx b
  | jam02 => exact Laws.Row.jam02
  | sloIzx b => exact Laws.Row.sloIzx b
  | nopZp04 b => exact Laws.Row.nopZp04 b
  | oraZp b => exact Laws.Row.oraZp b
  | aslZp b => exact Laws.Row.aslZp b
  | sloZp b => exact Laws.Row.sloZp b
  | php => exact Laws.Row.php
  | oraImm b => exact Laws.Row.oraImm b
  | aslAcc => exact Laws.Row.aslAcc
  | ancImm0B b => exact Laws.Row.ancImm0B b
  | nopAbs w => exact Laws.Row.nopAbs w
  | oraAbs w => exact Laws.Row.oraAbs w
  | aslAbs w => exact Laws.Row.aslAbs w
  | sloAbs w => exact Laws.Row.sloAbs w
  | bpl d => exact Laws.Row.bpl d
  | oraIzy b => exact Laws.Row.oraIzy b
  | jam12 => exact Laws.Row.jam12
  | sloIzy b => exact Laws.Row.sloIzy b
  | nopZpx14 b => exact Laws.Row.nopZpx14 b
  | oraZpx b => exact Laws.Row.oraZpx b
  | aslZpx b => exact Laws.Row.aslZpx b
  | sloZpx b => exact Laws.Row.sloZpx b
  | clc => exact Laws.Row.clc
  | oraAby w => exact Laws.Row.oraAby w
  | nop1A => exact Laws.Row.nop1A
  | sloAby w => exact Laws.Row.sloAby w
  | nopAbx1C w => exact Laws.Row.nopAbx1C w
  | oraAbx w => exact Laws.Row.oraAbx w
  | aslAbx w => exact Laws.Row.aslAbx w
  | sloAbx w => exact Laws.Row.sloAbx w
  | jsr w => exact Laws.Row.jsr w
  | andIzx b => exact Laws.Row.andIzx b
  | jam22 => exact Laws.Row.jam22
  | rlaIzx b => exact Laws.Row.rlaIzx b
  | bitZp b => exact Laws.Row.bitZp b
  | andZp b => exact Laws.Row.andZp b
  | rolZp b => exact Laws.Row.rolZp b
  | rlaZp b => exact Laws.Row.rlaZp b
  | plp => exact Laws.Row.plp
  | andImm b => exact Laws.Row.andImm b
  | rolAcc => exact Laws.Row.rolAcc
  | ancImm2B b => exact Laws.Row.ancImm2B b
  | bitAbs w => exact Laws.Row.bitAbs w
  | andAbs w => exact Laws.Row.andAbs w
  | rolAbs w => exact Laws.Row.rolAbs w
  | rlaAbs w => exact Laws.Row.rlaAbs w
  | bmi d => exact Laws.Row.bmi d
  | andIzy b => exact Laws.Row.andIzy b
  | jam32 => exact Laws.Row.jam32
  | rlaIzy b => exact Laws.Row.rlaIzy b
  | nopZpx34 b => exact Laws.Row.nopZpx34 b
  | andZpx b => exact Laws.Row.andZpx b
  | rolZpx b => exact Laws.Row.rolZpx b
  | rlaZpx b => exact Laws.Row.rlaZpx b
  | sec => exact Laws.Row.sec
  | andAby w => exact Laws.Row.andAby w
  | nop3A => exact Laws.Row.nop3A
  | rlaAby w => exact Laws.Row.rlaAby w
  | nopAbx3C w => exact Laws.Row.nopAbx3C w
  | andAbx w => exact Laws.Row.andAbx w
  | rolAbx w => exact Laws.Row.rolAbx w
  | rlaAbx w => exact Laws.Row.rlaAbx w
  | rti => exact Laws.Row.rti
  | eorIzx b => exact Laws.Row.eorIzx b
  | jam42 => exact Laws.Row.jam42
  | sreIzx b => exact Laws.Row.sreIzx b
  | nopZp44 b => exact Laws.Row.nopZp44 b
  | eorZp b => exact Laws.Row.eorZp b
  | lsrZp b => exact Laws.Row.lsrZp b
  | sreZp b => exact Laws.Row.sreZp b
  | pha => exact Laws.Row.pha
  | eorImm b => exact Laws.Row.eorImm b
  | lsrAcc => exact Laws.Row.lsrAcc
  | alrImm b => exact Laws.Row.alrImm b
  | jmpAbs w => exact Laws.Row.jmpAbs w
  | eorAbs w => exact Laws.Row.eorAbs w
  | lsrAbs w => exact Laws.Row.lsrAbs w
  | sreAbs w => exact Laws.Row.sreAbs w
  | bvc d => exact Laws.Row.bvc d
  | eorIzy b => exact Laws.Row.eorIzy b
  | jam52 => exact Laws.Row.jam52
  | sreIzy b => exact Laws.Row.sreIzy b
  | nopZpx54 b => exact Laws.Row.nopZpx54 b
  | eorZpx b => exact Laws.Row.eorZpx b
  | lsrZpx b => exact Laws.Row.lsrZpx b
  | sreZpx b => exact Laws.Row.sreZpx b
  | cli => exact Laws.Row.cli
  | eorAby w => exact Laws.Row.eorAby w
  | nop5A => exact Laws.Row.nop5A
  | sreAby w => exact Laws.Row.sreAby w
  | nopAbx5C w => exact Laws.Row.nopAbx5C w
  | eorAbx w => exact Laws.Row.eorAbx w
  | lsrAbx w => exact Laws.Row.lsrAbx w
  | sreAbx w => exact Laws.Row.sreAbx w
  | rts => exact Laws.Row.rts
  | adcIzx b => exact Laws.Row.adcIzx b
  | jam62 => exact Laws.Row.jam62
  | rraIzx b => exact Laws.Row.rraIzx b
  | nopZp64 b => exact Laws.Row.nopZp64 b
  | adcZp b => exact Laws.Row.adcZp b
  | rorZp b => exact Laws.Row.rorZp b
  | rraZp b => exact Laws.Row.rraZp b
  | pla => exact Laws.Row.pla
  | adcImm b => exact Laws.Row.adcImm b
  | rorAcc => exact Laws.Row.rorAcc
  | arrImm b => exact Laws.Row.arrImm b
  | jmpInd w => exact Laws.Row.jmpInd w
  | adcAbs w => exact Laws.Row.adcAbs w
  | rorAbs w => exact Laws.Row.rorAbs w
  | rraAbs w => exact Laws.Row.rraAbs w
  | bvs d => exact Laws.Row.bvs d
  | adcIzy b => exact Laws.Row.adcIzy b
  | jam72 => exact Laws.Row.jam72
  | rraIzy b => exact Laws.Row.rraIzy b
  | nopZpx74 b => exact Laws.Row.nopZpx74 b
  | adcZpx b => exact Laws.Row.adcZpx b
  | rorZpx b => exact Laws.Row.rorZpx b
  | rraZpx b => exact Laws.Row.rraZpx b
  | sei => exact Laws.Row.sei
  | adcAby w => exact Laws.Row.adcAby w
  | nop7A => exact Laws.Row.nop7A
  | rraAby w => exact Laws.Row.rraAby w
  | nopAbx7C w => exact Laws.Row.nopAbx7C w
  | adcAbx w => exact Laws.Row.adcAbx w
  | rorAbx w => exact Laws.Row.rorAbx w
  | rraAbx w => exact Laws.Row.rraAbx w
  | nopImm80 b => exact Laws.Row.nopImm80 b
  | staIzx b => exact Laws.Row.staIzx b
  | nopImm82 b => exact Laws.Row.nopImm82 b
  | saxIzx b => exact Laws.Row.saxIzx b
  | styZp b => exact Laws.Row.styZp b
  | staZp b => exact Laws.Row.staZp b
  | stxZp b => exact Laws.Row.stxZp b
  | saxZp b => exact Laws.Row.saxZp b
  | dey => exact Laws.Row.dey
  | nopImm89 b => exact Laws.Row.nopImm89 b
  | txa => exact Laws.Row.txa
  | aneImm b => exact Laws.Row.aneImm b
  | styAbs w => exact Laws.Row.styAbs w
  | staAbs w => exact Laws.Row.staAbs w
  | stxAbs w => exact Laws.Row.stxAbs w
  | saxAbs w => exact Laws.Row.saxAbs w
  | bcc d => exact Laws.Row.bcc d
  | staIzy b => exact Laws.Row.staIzy b
  | jam92 => exact Laws.Row.jam92
  | shaIzy b => exact Laws.Row.shaIzy b
  | styZpx b => exact Laws.Row.styZpx b
  | staZpx b => exact Laws.Row.staZpx b
  | stxZpy b => exact Laws.Row.stxZpy b
  | saxZpy b => exact Laws.Row.saxZpy b
  | tya => exact Laws.Row.tya
  | staAby w => exact Laws.Row.staAby w
  | txs => exact Laws.Row.txs
  | tasAby w => exact Laws.Row.tasAby w
  | shyAbx w => exact Laws.Row.shyAbx w
  | staAbx w => exact Laws.Row.staAbx w
  | shxAby w => exact Laws.Row.shxAby w
  | shaAby w => exact Laws.Row.shaAby w
  | ldyImm b => exact Laws.Row.ldyImm b
  | ldaIzx b => exact Laws.Row.ldaIzx b
  | ldxImm b => exact Laws.Row.ldxImm b
  | laxIzx b => exact Laws.Row.laxIzx b
  | ldyZp b => exact Laws.Row.ldyZp b
  | ldaZp b => exact Laws.Row.ldaZp b
  | ldxZp b => exact Laws.Row.ldxZp b
  | laxZp b => exact Laws.Row.laxZp b
  | tay => exact Laws.Row.tay
  | ldaImm b => exact Laws.Row.ldaImm b
  | tax => exact Laws.Row.tax
  | lxaImm b => exact Laws.Row.lxaImm b
  | ldyAbs w => exact Laws.Row.ldyAbs w
  | ldaAbs w => exact Laws.Row.ldaAbs w
  | ldxAbs w => exact Laws.Row.ldxAbs w
  | laxAbs w => exact Laws.Row.laxAbs w
  | bcs d => exact Laws.Row.bcs d
  | ldaIzy b => exact Laws.Row.ldaIzy b
  | jamB2 => exact Laws.Row.jamB2
  | laxIzy b => exact Laws.Row.laxIzy b
  | ldyZpx b => exact Laws.Row.ldyZpx b
  | ldaZpx b => exact Laws.Row.ldaZpx b
  | ldxZpy b => exact Laws.Row.ldxZpy b
  | laxZpy b => exact Laws.Row.laxZpy b
  | clv => exact Laws.Row.clv
  | ldaAby w => exact Laws.Row.ldaAby w
  | tsx => exact Laws.Row.tsx
  | lasAby w => exact Laws.Row.lasAby w
  | ldyAbx w => exact Laws.Row.ldyAbx w
  | ldaAbx w => exact Laws.Row.ldaAbx w
  | ldxAby w => exact Laws.Row.ldxAby w
  | laxAby w => exact Laws.Row.laxAby w
  | cpyImm b => exact Laws.Row.cpyImm b
  | cmpIzx b => exact Laws.Row.cmpIzx b
  | nopImmC2 b => exact Laws.Row.nopImmC2 b
  | dcpIzx b => exact Laws.Row.dcpIzx b
  | cpyZp b => exact Laws.Row.cpyZp b
  | cmpZp b => exact Laws.Row.cmpZp b
  | decZp b => exact Laws.Row.decZp b
  | dcpZp b => exact Laws.Row.dcpZp b
  | iny => exact Laws.Row.iny
  | cmpImm b => exact Laws.Row.cmpImm b
  | dex => exact Laws.Row.dex
  | sbxImm b => exact Laws.Row.sbxImm b
  | cpyAbs w => exact Laws.Row.cpyAbs w
  | cmpAbs w => exact Laws.Row.cmpAbs w
  | decAbs w => exact Laws.Row.decAbs w
  | dcpAbs w => exact Laws.Row.dcpAbs w
  | bne d => exact Laws.Row.bne d
  | cmpIzy b => exact Laws.Row.cmpIzy b
  | jamD2 => exact Laws.Row.jamD2
  | dcpIzy b => exact Laws.Row.dcpIzy b
  | nopZpxD4 b => exact Laws.Row.nopZpxD4 b
  | cmpZpx b => exact Laws.Row.cmpZpx b
  | decZpx b => exact Laws.Row.decZpx b
  | dcpZpx b => exact Laws.Row.dcpZpx b
  | cld => exact Laws.Row.cld
  | cmpAby w => exact Laws.Row.cmpAby w
  | nopDA => exact Laws.Row.nopDA
  | dcpAby w => exact Laws.Row.dcpAby w
  | nopAbxDC w => exact Laws.Row.nopAbxDC w
  | cmpAbx w => exact Laws.Row.cmpAbx w
  | decAbx w => exact Laws.Row.decAbx w
  | dcpAbx w => exact Laws.Row.dcpAbx w
  | cpxImm b => exact Laws.Row.cpxImm b
  | sbcIzx b => exact Laws.Row.sbcIzx b
  | nopImmE2 b => exact Laws.Row.nopImmE2 b
  | iscIzx b => exact Laws.Row.iscIzx b
  | cpxZp b => exact Laws.Row.cpxZp b
  | sbcZp b => exact Laws.Row.sbcZp b
  | incZp b => exact Laws.Row.incZp b
  | iscZp b => exact Laws.Row.iscZp b
  | inx => exact Laws.Row.inx
  | sbcImm b => exact Laws.Row.sbcImm b
  | nop => exact Laws.Row.nop
  | sbcImmEB b => exact Laws.Row.sbcImmEB b
  | cpxAbs w => exact Laws.Row.cpxAbs w
  | sbcAbs w => exact Laws.Row.sbcAbs w
  | incAbs w => exact Laws.Row.incAbs w
  | iscAbs w => exact Laws.Row.iscAbs w
  | beq d => exact Laws.Row.beq d
  | sbcIzy b => exact Laws.Row.sbcIzy b
  | jamF2 => exact Laws.Row.jamF2
  | iscIzy b => exact Laws.Row.iscIzy b
  | nopZpxF4 b => exact Laws.Row.nopZpxF4 b
  | sbcZpx b => exact Laws.Row.sbcZpx b
  | incZpx b => exact Laws.Row.incZpx b
  | iscZpx b => exact Laws.Row.iscZpx b
  | sed => exact Laws.Row.sed
  | sbcAby w => exact Laws.Row.sbcAby w
  | nopFA => exact Laws.Row.nopFA
  | iscAby w => exact Laws.Row.iscAby w
  | nopAbxFC w => exact Laws.Row.nopAbxFC w
  | sbcAbx w => exact Laws.Row.sbcAbx w
  | incAbx w => exact Laws.Row.incAbx w
  | iscAbx w => exact Laws.Row.iscAbx w

theorem lookup_mnemonic (i : Instr) : (lookup i.opcode).mnemonic = i.mnemonic := (instr_row i).2.1

theorem lookup_mode (i : Instr) : (lookup i.opcode).mode = i.operand.mode := (instr_row i).2.2

end Sys2Proof
end

