-- ==== Sys2Proof/Laws/Exec.lean ====
section
/-! SUPPORT. What `exec` does, by mnemonic: one equation in place of a case for each of its arms. A claim about the
instructions of one mnemonic rewrites with `exec_eq_execOn` and then cites the lemma of the form. -/

namespace Sys2Proof.Machine

open Sys2Proof

/-- `exec` runs the form of the instruction's mnemonic. -/
theorem exec_eq_execOn (i : Instr) (s : State) : exec i s = execOn i s := by
  cases i <;> rfl

/-- The seven unstable opcodes are the ones with the unimplemented form (R198 to R203). -/
theorem execOn_unimplemented {β : Type} {M : Platform β} {i : Instr} (h : (lookup i.opcode).cls = .unimplemented)
    (s : State.On M) : execOn i s = unimplementedForm i.opcode s := by
  have hrows : ∀ op : Byte, (lookup op).cls = .unimplemented →
      (lookup op).mnemonic ∈ ([.ANE, .LXA, .SHA, .SHX, .SHY, .TAS] : List Mnemonic) := by decide +kernel
  have hm := hrows i.opcode h
  rw [lookup_mnemonic] at hm
  simp only [List.mem_cons, List.not_mem_nil, or_false] at hm
  rcases hm with hm | hm | hm | hm | hm | hm <;> rw [execOn, hm]

/-- Resolve, Dispatch and Retire look at the opcode and operand bytes of an instruction and at nothing else. -/
theorem execOn_congr {β : Type} {M : Platform β} {i j : Instr} (ho : i.opcode = j.opcode)
    (hb : i.operand.bytes = j.operand.bytes) (s : State.On M) : execOn i s = execOn j s := by
  have hm : i.mnemonic = j.mnemonic := by rw [← lookup_mnemonic, ← lookup_mnemonic, ho]
  have hop : i.operand = j.operand := Operand.ext_bytes (by rw [← lookup_mode, ← lookup_mode, ho]) hb
  simp only [execOn, ho, hm, hop]

end Sys2Proof.Machine
end

