-- ==== Sys2Proof/Laws/Step.lean ====
section
/-! SUPPORT. What fetching and one step can do. -/

namespace Sys2Proof.Machine

open Sys2Proof

/-- The bytes from `PC` on, as the calls that read them. -/
def fetchCalls (s : State) : List BusAccess :=
  [.read s.PC (s.mem.read s.PC), .read (s.PC + 1) (s.mem.read (s.PC + 1)), .read (s.PC + 2) (s.mem.read (s.PC + 2))]

theorem fetchLength_cases (op : Byte) :
    fetchLength op = 1 ∨ (fetchLength op = 2 ∧ (lookup op).length = 2) ∨ (fetchLength op = 3 ∧ (lookup op).length = 3) := by
  revert op
  decide +kernel

/-- A single byte is fetched for the rows of length 1 and for the unimplemented opcodes. -/
theorem fetchLength_one {op : Byte} (h : fetchLength op = 1) : (lookup op).length = 1 ∨ (lookup op).cls = .unimplemented := by
  revert op
  decide +kernel

/-- Fetching on FlatRam moves `PC` past the fetched bytes and starts the record of calls with them; nothing else changes. -/
theorem State.On.fetched_eq (s : State) :
    s.fetched =
      { s with
        PC := s.PC + BitVec.ofNat 16 (fetchLength (s.mem.read s.PC))
        bus := (fetchCalls s).take (fetchLength (s.mem.read s.PC)) } := by
  have hpc : s.PC + 1#16 + 1#16 = s.PC + 2#16 ∧ s.PC + 2#16 + 1#16 = s.PC + 3#16 := by constructor <;> bv_omega
  have hop : ((s.setBus []).fetchByte).1 = s.mem.read s.PC := rfl
  rcases fetchLength_cases (s.mem.read s.PC) with h | ⟨h, -⟩ | ⟨h, -⟩ <;>
    simp only [State.On.fetched, State.On.fetch, hop, h] <;>
    simp [State.On.fetchByte, State.On.busRead_snd, State.On.setBus, State.On.setPC, fetchCalls, hpc]

/-- The state an instruction is dispatched in differs from the state before the step in `PC` and the calls only. -/
theorem State.On.fetched_frame (s : State) :
    s.fetched =
      { s with PC := s.PC + BitVec.ofNat 16 (fetchLength (s.mem.read s.PC)), bus := s.fetched.bus } := by
  rw [State.On.fetched_eq]

/-- The instruction fetched through the bus runs as the one whose bytes stand at `PC`. -/
theorem exec_fetch (s t : State) : exec s.fetch.1 t = exec (instrAt s) t := by
  have hop : ((s.setBus []).fetchByte).1 = s.mem.read s.PC := rfl
  rw [exec_eq_execOn, exec_eq_execOn]
  rcases fetchLength_cases (s.mem.read s.PC) with h | ⟨h, hl⟩ | ⟨h, -⟩
  · have hf : s.fetch.1 = instrOf (s.mem.read s.PC) 0 0 := by simp only [State.On.fetch, hop, h]
    rcases fetchLength_one h with hl | hu
    · refine execOn_congr ?_ ?_ t
      · rw [hf, instrAt_opcode, instrOf_opcode]
      · rw [hf, instrAt, instrOf_bytes, instrOf_bytes, hl]
        rfl
    · rw [execOn_unimplemented (by rw [hf, instrOf_opcode]; exact hu),
        execOn_unimplemented (by rw [instrAt_opcode]; exact hu), hf, instrOf_opcode, instrAt_opcode]
  · have hf : s.fetch.1 = instrOf (s.mem.read s.PC) (s.mem.read (s.PC + 1)) 0 := by
      simp only [State.On.fetch, hop, h]
      rfl
    refine execOn_congr ?_ ?_ t
    · rw [hf, instrAt_opcode, instrOf_opcode]
    · rw [hf, instrAt, instrOf_bytes, instrOf_bytes, hl]
      rfl
  · have hpc : s.PC + 1#16 + 1#16 = s.PC + 2#16 := by bv_omega
    have hf : s.fetch.1 = instrAt s := by
      simp only [State.On.fetch, hop, h]
      simp [State.On.fetchByte, State.On.busRead_snd, State.On.setBus, State.On.setPC, instrAt, hpc]
    rw [hf]

theorem step_halted {s : State} (h : s.halted = true) : step s = .fault .steppedWhileHalted := by simp [step, h]

theorem step_running {s : State} (h : s.halted = false) : step s = exec (instrAt s) s.fetched := by
  rw [← exec_fetch]
  simp [step, h, State.On.fetched]

/-- Only a halted core faults in the step itself. -/
theorem step_cases (s : State) :
    (s.halted = true ∧ step s = .fault .steppedWhileHalted) ∨ (s.halted = false ∧ step s = exec (instrAt s) s.fetched) := by
  cases h : s.halted
  · exact .inr ⟨rfl, step_running h⟩
  · exact .inl ⟨rfl, step_halted h⟩

/-- The step of `State` is the step of its platform. -/
theorem step_eq_stepOn (s : State) : step s = stepOn s := by rw [step, stepOn, exec_eq_execOn]

theorem stepOutcome_eq_stepOutcomeOn (s : State) : stepOutcome s = stepOutcomeOn s := by
  rw [stepOutcome, stepOutcomeOn, step_eq_stepOn]

/-! ### The host's load of a program -/

theorem Memory.wf_load {m : Memory} (a : Addr) (l : List Byte) (h : m.wf) : (m.load a l).wf := by
  induction l generalizing m a with
  | nil => exact h
  | cons v vs ih => exact ih (a + 1) (Memory.wf_write a v h)

/-- Placing a word changes memory and `halted` only, and keeps the canonical form. -/
theorem withFetchWord_frame (s : State) (nbits w : Nat) :
    s.withFetchWord nbits w = { s with mem := (s.withFetchWord nbits w).mem, halted := false } := rfl

theorem withFetchWord_wf {s : State} (nbits w : Nat) (h : s.mem.wf) : (s.withFetchWord nbits w).mem.wf := Memory.wf_load _ _ h

end Sys2Proof.Machine
end

