-- ==== Sys2Proof/Tests/Slice0.lean ====
section
/-! SUPPORT. The model's own tests, one step or one word each. Expected results come from outside the model: decoded words
from the rows of spec/opcode_table.json, one-step results from the vectors `V<n>` of spec/95_test_vectors.md. Then the
witnesses: for every obligation with hypotheses, a state and operands that meet them. -/

namespace Sys2Proof.Tests

open Sys2Proof Sys2Proof.Machine Sys2Proof.Claims

set_option Elab.async false

/-! ### Well-formedness: for each check a row that it refuses -/

/-- The row of `LDA #` (0xA9). -/
def ldaRow : Descriptor := lookup 0xA9

theorem test_wf_accepts_lda : ldaRow.wellFormed = true := by decide
theorem test_wf_refuses_length : ({ ldaRow with length := 3 } : Descriptor).lengthOk = false := by decide
theorem test_wf_refuses_halt : ({ ldaRow with halt := true } : Descriptor).haltOk = false := by decide
theorem test_wf_refuses_penalty : ({ ldaRow with pagePenalty := true } : Descriptor).penaltyOk = false := by decide
theorem test_wf_refuses_cycles : ({ ldaRow with baseCycles := 9 } : Descriptor).cyclesOk = false := by decide
theorem test_wf_refuses_indirect : ({ ldaRow with mode := .indirect, length := 3 } : Descriptor).indirectOk = false := by
  decide
theorem test_wf_refuses_accumulator :
    ({ ldaRow with mode := .accumulator, length := 1 } : Descriptor).accumulatorOk = false := by decide
theorem test_wf_refuses_relative : ({ ldaRow with mode := .relative } : Descriptor).relativeOk = false := by decide
theorem test_wf_accepts_machine : Config.machine.resetPOk = true := by decide
theorem test_wf_refuses_reset_p : ({ Config.machine with resetP := 0x04 } : Config).resetPOk = false := by decide
theorem test_wf_refuses_ill_formed_row : ({ ldaRow with length := 3 } : Descriptor).wellFormed = false := by decide

/-! ### Decoding: every row of the table, operand bytes 0x34 and 0x12 -/

/-- The instructions read from byte lists that each hold one instruction. -/
def decodeAll (l : List (List Byte)) : List (Option Instr) :=
  l.map fun bytes =>
    match decode bytes with
    | .ok (i, []) => some i
    | .ok (_, _ :: _) => none
    | .error _ => none

theorem test_decode_row_0 :
    decodeAll
      [[0x00], [0x01, 0x34], [0x02], [0x03, 0x34], [0x04, 0x34], [0x05, 0x34], [0x06, 0x34], [0x07, 0x34], [0x08],
        [0x09, 0x34], [0x0A], [0x0B, 0x34], [0x0C, 0x34, 0x12], [0x0D, 0x34, 0x12], [0x0E, 0x34, 0x12],
        [0x0F, 0x34, 0x12]] =
      ([.brk, .oraIzx 0x34, .jam02, .sloIzx 0x34, .nopZp04 0x34, .oraZp 0x34, .aslZp 0x34, .sloZp 0x34, .php,
        .oraImm 0x34, .aslAcc, .ancImm0B 0x34, .nopAbs 0x1234, .oraAbs 0x1234, .aslAbs 0x1234, .sloAbs 0x1234] : List Instr).map some := by
  decide +kernel

theorem test_decode_row_1 :
    decodeAll
      [[0x10, 0x34], [0x11, 0x34], [0x12], [0x13, 0x34], [0x14, 0x34], [0x15, 0x34], [0x16, 0x34], [0x17, 0x34],
        [0x18], [0x19, 0x34, 0x12], [0x1A], [0x1B, 0x34, 0x12], [0x1C, 0x34, 0x12], [0x1D, 0x34, 0x12],
        [0x1E, 0x34, 0x12], [0x1F, 0x34, 0x12]] =
      ([.bpl 0x34, .oraIzy 0x34, .jam12, .sloIzy 0x34, .nopZpx14 0x34, .oraZpx 0x34, .aslZpx 0x34, .sloZpx 0x34, .clc,
        .oraAby 0x1234, .nop1A, .sloAby 0x1234, .nopAbx1C 0x1234, .oraAbx 0x1234, .aslAbx 0x1234, .sloAbx 0x1234] : List Instr).map some := by
  decide +kernel

theorem test_decode_row_2 :
    decodeAll
      [[0x20, 0x34, 0x12], [0x21, 0x34], [0x22], [0x23, 0x34], [0x24, 0x34], [0x25, 0x34], [0x26, 0x34],
        [0x27, 0x34], [0x28], [0x29, 0x34], [0x2A], [0x2B, 0x34], [0x2C, 0x34, 0x12], [0x2D, 0x34, 0x12],
        [0x2E, 0x34, 0x12], [0x2F, 0x34, 0x12]] =
      ([.jsr 0x1234, .andIzx 0x34, .jam22, .rlaIzx 0x34, .bitZp 0x34, .andZp 0x34, .rolZp 0x34, .rlaZp 0x34, .plp,
        .andImm 0x34, .rolAcc, .ancImm2B 0x34, .bitAbs 0x1234, .andAbs 0x1234, .rolAbs 0x1234, .rlaAbs 0x1234] : List Instr).map some := by
  decide +kernel

theorem test_decode_row_3 :
    decodeAll
      [[0x30, 0x34], [0x31, 0x34], [0x32], [0x33, 0x34], [0x34, 0x34], [0x35, 0x34], [0x36, 0x34], [0x37, 0x34],
        [0x38], [0x39, 0x34, 0x12], [0x3A], [0x3B, 0x34, 0x12], [0x3C, 0x34, 0x12], [0x3D, 0x34, 0x12],
        [0x3E, 0x34, 0x12], [0x3F, 0x34, 0x12]] =
      ([.bmi 0x34, .andIzy 0x34, .jam32, .rlaIzy 0x34, .nopZpx34 0x34, .andZpx 0x34, .rolZpx 0x34, .rlaZpx 0x34, .sec,
        .andAby 0x1234, .nop3A, .rlaAby 0x1234, .nopAbx3C 0x1234, .andAbx 0x1234, .rolAbx 0x1234, .rlaAbx 0x1234] : List Instr).map some := by
  decide +kernel

theorem test_decode_row_4 :
    decodeAll
      [[0x40], [0x41, 0x34], [0x42], [0x43, 0x34], [0x44, 0x34], [0x45, 0x34], [0x46, 0x34], [0x47, 0x34], [0x48],
        [0x49, 0x34], [0x4A], [0x4B, 0x34], [0x4C, 0x34, 0x12], [0x4D, 0x34, 0x12], [0x4E, 0x34, 0x12],
        [0x4F, 0x34, 0x12]] =
      ([.rti, .eorIzx 0x34, .jam42, .sreIzx 0x34, .nopZp44 0x34, .eorZp 0x34, .lsrZp 0x34, .sreZp 0x34, .pha,
        .eorImm 0x34, .lsrAcc, .alrImm 0x34, .jmpAbs 0x1234, .eorAbs 0x1234, .lsrAbs 0x1234, .sreAbs 0x1234] : List Instr).map some := by
  decide +kernel

theorem test_decode_row_5 :
    decodeAll
      [[0x50, 0x34], [0x51, 0x34], [0x52], [0x53, 0x34], [0x54, 0x34], [0x55, 0x34], [0x56, 0x34], [0x57, 0x34],
        [0x58], [0x59, 0x34, 0x12], [0x5A], [0x5B, 0x34, 0x12], [0x5C, 0x34, 0x12], [0x5D, 0x34, 0x12],
        [0x5E, 0x34, 0x12], [0x5F, 0x34, 0x12]] =
      ([.bvc 0x34, .eorIzy 0x34, .jam52, .sreIzy 0x34, .nopZpx54 0x34, .eorZpx 0x34, .lsrZpx 0x34, .sreZpx 0x34, .cli,
        .eorAby 0x1234, .nop5A, .sreAby 0x1234, .nopAbx5C 0x1234, .eorAbx 0x1234, .lsrAbx 0x1234, .sreAbx 0x1234] : List Instr).map some := by
  decide +kernel

theorem test_decode_row_6 :
    decodeAll
      [[0x60], [0x61, 0x34], [0x62], [0x63, 0x34], [0x64, 0x34], [0x65, 0x34], [0x66, 0x34], [0x67, 0x34], [0x68],
        [0x69, 0x34], [0x6A], [0x6B, 0x34], [0x6C, 0x34, 0x12], [0x6D, 0x34, 0x12], [0x6E, 0x34, 0x12],
        [0x6F, 0x34, 0x12]] =
      ([.rts, .adcIzx 0x34, .jam62, .rraIzx 0x34, .nopZp64 0x34, .adcZp 0x34, .rorZp 0x34, .rraZp 0x34, .pla,
        .adcImm 0x34, .rorAcc, .arrImm 0x34, .jmpInd 0x1234, .adcAbs 0x1234, .rorAbs 0x1234, .rraAbs 0x1234] : List Instr).map some := by
  decide +kernel

theorem test_decode_row_7 :
    decodeAll
      [[0x70, 0x34], [0x71, 0x34], [0x72], [0x73, 0x34], [0x74, 0x34], [0x75, 0x34], [0x76, 0x34], [0x77, 0x34],
        [0x78], [0x79, 0x34, 0x12], [0x7A], [0x7B, 0x34, 0x12], [0x7C, 0x34, 0x12], [0x7D, 0x34, 0x12],
        [0x7E, 0x34, 0x12], [0x7F, 0x34, 0x12]] =
      ([.bvs 0x34, .adcIzy 0x34, .jam72, .rraIzy 0x34, .nopZpx74 0x34, .adcZpx 0x34, .rorZpx 0x34, .rraZpx 0x34, .sei,
        .adcAby 0x1234, .nop7A, .rraAby 0x1234, .nopAbx7C 0x1234, .adcAbx 0x1234, .rorAbx 0x1234, .rraAbx 0x1234] : List Instr).map some := by
  decide +kernel

theorem test_decode_row_8 :
    decodeAll
      [[0x80, 0x34], [0x81, 0x34], [0x82, 0x34], [0x83, 0x34], [0x84, 0x34], [0x85, 0x34], [0x86, 0x34],
        [0x87, 0x34], [0x88], [0x89, 0x34], [0x8A], [0x8B, 0x34], [0x8C, 0x34, 0x12], [0x8D, 0x34, 0x12],
        [0x8E, 0x34, 0x12], [0x8F, 0x34, 0x12]] =
      ([.nopImm80 0x34, .staIzx 0x34, .nopImm82 0x34, .saxIzx 0x34, .styZp 0x34, .staZp 0x34, .stxZp 0x34,
        .saxZp 0x34, .dey, .nopImm89 0x34, .txa, .aneImm 0x34, .styAbs 0x1234, .staAbs 0x1234, .stxAbs 0x1234,
        .saxAbs 0x1234] : List Instr).map some := by
  decide +kernel

theorem test_decode_row_9 :
    decodeAll
      [[0x90, 0x34], [0x91, 0x34], [0x92], [0x93, 0x34], [0x94, 0x34], [0x95, 0x34], [0x96, 0x34], [0x97, 0x34],
        [0x98], [0x99, 0x34, 0x12], [0x9A], [0x9B, 0x34, 0x12], [0x9C, 0x34, 0x12], [0x9D, 0x34, 0x12],
        [0x9E, 0x34, 0x12], [0x9F, 0x34, 0x12]] =
      ([.bcc 0x34, .staIzy 0x34, .jam92, .shaIzy 0x34, .styZpx 0x34, .staZpx 0x34, .stxZpy 0x34, .saxZpy 0x34, .tya,
        .staAby 0x1234, .txs, .tasAby 0x1234, .shyAbx 0x1234, .staAbx 0x1234, .shxAby 0x1234, .shaAby 0x1234] : List Instr).map some := by
  decide +kernel

theorem test_decode_row_A :
    decodeAll
      [[0xA0, 0x34], [0xA1, 0x34], [0xA2, 0x34], [0xA3, 0x34], [0xA4, 0x34], [0xA5, 0x34], [0xA6, 0x34],
        [0xA7, 0x34], [0xA8], [0xA9, 0x34], [0xAA], [0xAB, 0x34], [0xAC, 0x34, 0x12], [0xAD, 0x34, 0x12],
        [0xAE, 0x34, 0x12], [0xAF, 0x34, 0x12]] =
      ([.ldyImm 0x34, .ldaIzx 0x34, .ldxImm 0x34, .laxIzx 0x34, .ldyZp 0x34, .ldaZp 0x34, .ldxZp 0x34, .laxZp 0x34,
        .tay, .ldaImm 0x34, .tax, .lxaImm 0x34, .ldyAbs 0x1234, .ldaAbs 0x1234, .ldxAbs 0x1234, .laxAbs 0x1234] : List Instr).map some := by
  decide +kernel

theorem test_decode_row_B :
    decodeAll
      [[0xB0, 0x34], [0xB1, 0x34], [0xB2], [0xB3, 0x34], [0xB4, 0x34], [0xB5, 0x34], [0xB6, 0x34], [0xB7, 0x34],
        [0xB8], [0xB9, 0x34, 0x12], [0xBA], [0xBB, 0x34, 0x12], [0xBC, 0x34, 0x12], [0xBD, 0x34, 0x12],
        [0xBE, 0x34, 0x12], [0xBF, 0x34, 0x12]] =
      ([.bcs 0x34, .ldaIzy 0x34, .jamB2, .laxIzy 0x34, .ldyZpx 0x34, .ldaZpx 0x34, .ldxZpy 0x34, .laxZpy 0x34, .clv,
        .ldaAby 0x1234, .tsx, .lasAby 0x1234, .ldyAbx 0x1234, .ldaAbx 0x1234, .ldxAby 0x1234, .laxAby 0x1234] : List Instr).map some := by
  decide +kernel

theorem test_decode_row_C :
    decodeAll
      [[0xC0, 0x34], [0xC1, 0x34], [0xC2, 0x34], [0xC3, 0x34], [0xC4, 0x34], [0xC5, 0x34], [0xC6, 0x34],
        [0xC7, 0x34], [0xC8], [0xC9, 0x34], [0xCA], [0xCB, 0x34], [0xCC, 0x34, 0x12], [0xCD, 0x34, 0x12],
        [0xCE, 0x34, 0x12], [0xCF, 0x34, 0x12]] =
      ([.cpyImm 0x34, .cmpIzx 0x34, .nopImmC2 0x34, .dcpIzx 0x34, .cpyZp 0x34, .cmpZp 0x34, .decZp 0x34, .dcpZp 0x34,
        .iny, .cmpImm 0x34, .dex, .sbxImm 0x34, .cpyAbs 0x1234, .cmpAbs 0x1234, .decAbs 0x1234, .dcpAbs 0x1234] : List Instr).map some := by
  decide +kernel

theorem test_decode_row_D :
    decodeAll
      [[0xD0, 0x34], [0xD1, 0x34], [0xD2], [0xD3, 0x34], [0xD4, 0x34], [0xD5, 0x34], [0xD6, 0x34], [0xD7, 0x34],
        [0xD8], [0xD9, 0x34, 0x12], [0xDA], [0xDB, 0x34, 0x12], [0xDC, 0x34, 0x12], [0xDD, 0x34, 0x12],
        [0xDE, 0x34, 0x12], [0xDF, 0x34, 0x12]] =
      ([.bne 0x34, .cmpIzy 0x34, .jamD2, .dcpIzy 0x34, .nopZpxD4 0x34, .cmpZpx 0x34, .decZpx 0x34, .dcpZpx 0x34, .cld,
        .cmpAby 0x1234, .nopDA, .dcpAby 0x1234, .nopAbxDC 0x1234, .cmpAbx 0x1234, .decAbx 0x1234, .dcpAbx 0x1234] : List Instr).map some := by
  decide +kernel

theorem test_decode_row_E :
    decodeAll
      [[0xE0, 0x34], [0xE1, 0x34], [0xE2, 0x34], [0xE3, 0x34], [0xE4, 0x34], [0xE5, 0x34], [0xE6, 0x34],
        [0xE7, 0x34], [0xE8], [0xE9, 0x34], [0xEA], [0xEB, 0x34], [0xEC, 0x34, 0x12], [0xED, 0x34, 0x12],
        [0xEE, 0x34, 0x12], [0xEF, 0x34, 0x12]] =
      ([.cpxImm 0x34, .sbcIzx 0x34, .nopImmE2 0x34, .iscIzx 0x34, .cpxZp 0x34, .sbcZp 0x34, .incZp 0x34, .iscZp 0x34,
        .inx, .sbcImm 0x34, .nop, .sbcImmEB 0x34, .cpxAbs 0x1234, .sbcAbs 0x1234, .incAbs 0x1234, .iscAbs 0x1234] : List Instr).map some := by
  decide +kernel

theorem test_decode_row_F :
    decodeAll
      [[0xF0, 0x34], [0xF1, 0x34], [0xF2], [0xF3, 0x34], [0xF4, 0x34], [0xF5, 0x34], [0xF6, 0x34], [0xF7, 0x34],
        [0xF8], [0xF9, 0x34, 0x12], [0xFA], [0xFB, 0x34, 0x12], [0xFC, 0x34, 0x12], [0xFD, 0x34, 0x12],
        [0xFE, 0x34, 0x12], [0xFF, 0x34, 0x12]] =
      ([.beq 0x34, .sbcIzy 0x34, .jamF2, .iscIzy 0x34, .nopZpxF4 0x34, .sbcZpx 0x34, .incZpx 0x34, .iscZpx 0x34, .sed,
        .sbcAby 0x1234, .nopFA, .iscAby 0x1234, .nopAbxFC 0x1234, .sbcAbx 0x1234, .incAbx 0x1234, .iscAbx 0x1234] : List Instr).map some := by
  decide +kernel

/-! ### Decoding, bit by bit: one word of each family, first byte in the low bits -/

theorem test_bits_load : decodeTableWord 16 0b10000101_10101001 = some (.ldaImm 0b10000101) := by decide
theorem test_bits_store : decodeTableWord 24 0b00000010_00000000_10001101 = some (.staAbs 0b00000010_00000000) := by decide
theorem test_bits_stack : decodeTableWord 8 0b01001000 = some .pha := by decide
theorem test_bits_arithmetic : decodeTableWord 16 0b00010000_01110001 = some (.adcIzy 0b00010000) := by decide
theorem test_bits_shift : decodeTableWord 8 0b00001010 = some .aslAcc := by decide
theorem test_bits_control : decodeTableWord 24 0b00010010_00110100_00100000 = some (.jsr 0b00010010_00110100) := by decide
theorem test_bits_branch : decodeTableWord 16 0b11111101_11010000 = some (.bne 0b11111101) := by decide
theorem test_bits_flag : decodeTableWord 8 0b00011000 = some .clc := by decide
theorem test_bits_unofficial : decodeTableWord 24 0b00100000_11111111_01111111 = some (.rraAbx 0b00100000_11111111) := by
  decide
theorem test_bits_jam : decodeTableWord 8 0b00000010 = some .jam02 := by decide
/-- With the operand bits absent they are 0. -/
theorem test_bits_operand_absent : decodeTableWord 8 0xFF_FF_A9 = some (.ldaImm 0x00) := by decide
theorem test_decode_refuses_empty : decode [] = .error .noBytes := by decide
theorem test_decode_refuses_truncated : decode [0xAD, 0x34] = .error (.truncated 0xAD 1) := by decide
theorem test_encode_absolute_low_byte_first : encode (.ldaAbs 0x1234) = [0xAD, 0x34, 0x12] := by decide

/-! ### One step of each instruction

`V<n>` is the vector of spec/95_test_vectors.md; each theorem checks the fields that the vector changes, the packed status
and the cycle count. -/

/-- The vectors' start state with `bytes` at `pc`: reset values, memory as listed. -/
def start (pc : Addr) (bytes : List Byte) (cells : List (Addr × Byte)) (f : State → State) : State :=
  f (State.On.entry pc (Memory.load (cells.foldl (fun m c => m.write c.1 c.2) []) pc bytes))

/-- What a step leaves behind, seen through `f`, if it gives a next state. -/
def after {α : Type} (s : State) (f : State → α) : Option α :=
  match step s with
  | .next t => some (f t)
  | .fault _ => none
  | .refused _ => none

theorem test_V9_lda :
    after
        (start 0x8000 [0xA1, 0xFE] [(0x00FF, 0x34), (0x0000, 0x12), (0x0100, 0x99), (0x1234, 0xAB)]
          (fun s => { s with X := 0x01 }))
        (fun t => (t.A, t.P.pack, t.cycles)) = some (0xAB, 0xA4, some 6) := by
  decide +kernel

theorem test_V8_lda :
    after (start 0x8000 [0xB9, 0xFF, 0xFF] [(0x0001, 0x5A)] (fun s => { s with Y := 0x02 }))
        (fun t => (t.A, t.P.pack, t.cycles)) = some (0x5A, 0x24, some 5) := by
  decide +kernel

theorem test_V13_ldx :
    after (start 0x8000 [0xB6, 0xF0] [(0x0010, 0x81)] (fun s => { s with Y := 0x20 }))
        (fun t => (t.X, t.P.pack, t.cycles)) = some (0x81, 0xA4, some 4) := by
  decide +kernel

theorem test_V16_ldy :
    after (start 0x8000 [0xBC, 0x00, 0x20] [(0x2005, 0x00)] (fun s => { s with X := 0x05 }))
        (fun t => (t.P.pack, t.cycles)) = some (0x26, some 4) := by
  decide +kernel

theorem test_V20_sta :
    after (start 0x8000 [0x91, 0x10] [(0x0010, 0x01), (0x0011, 0x03)] (fun s => { s with A := 0x42, Y := 0xFF }))
        (fun t => (t.P.pack, t.mem.read 0x0400, t.cycles)) = some (0x24, 0x42, some 6) := by
  decide +kernel

theorem test_V23_stx :
    after (start 0x8000 [0x96, 0xFF] [] (fun s => { s with X := 0x07, Y := 0x02 }))
        (fun t => (t.P.pack, t.mem.read 0x0001, t.cycles)) = some (0x24, 0x07, some 4) := by
  decide +kernel

theorem test_V24_sty :
    after (start 0x8000 [0x94, 0xFF] [] (fun s => { s with Y := 0x09, X := 0x01 }))
        (fun t => (t.P.pack, t.mem.read 0x0000, t.cycles)) = some (0x24, 0x09, some 4) := by
  decide +kernel

theorem test_V25_tax :
    after (start 0x8000 [0xAA] [] (fun s => { s with A := 0x85 }))
        (fun t => (t.X, t.P.pack, t.cycles)) = some (0x85, 0xA4, some 2) := by
  decide +kernel

theorem test_V26_tay :
    after (start 0x8000 [0xA8] [] (fun s => { s with A := 0x00, Y := 0x03 }))
        (fun t => (t.Y, t.P.pack, t.cycles)) = some (0x00, 0x26, some 2) := by
  decide +kernel

theorem test_V27_txa :
    after (start 0x8000 [0x8A] [] (fun s => { s with X := 0x7F }))
        (fun t => (t.A, t.P.pack, t.cycles)) = some (0x7F, 0x24, some 2) := by
  decide +kernel

theorem test_V28_tya :
    after (start 0x8000 [0x98] [] (fun s => { s with Y := 0x80 }))
        (fun t => (t.A, t.P.pack, t.cycles)) = some (0x80, 0xA4, some 2) := by
  decide +kernel

theorem test_V29_tsx :
    after (start 0x8000 [0xBA] [] id)
        (fun t => (t.X, t.P.pack, t.cycles)) = some (0xFD, 0xA4, some 2) := by
  decide +kernel

theorem test_V30_txs :
    after (start 0x8000 [0x9A] [] (fun s => { s with X := 0x00, P := { s.P with Z := false } }))
        (fun t => (t.S, t.P.pack, t.cycles)) = some (0x00, 0x24, some 2) := by
  decide +kernel

theorem test_V32_pha :
    after (start 0x8000 [0x48] [] (fun s => { s with A := 0x42, S := 0x00 }))
        (fun t => (t.S, t.P.pack, t.mem.read 0x0100, t.cycles)) = some (0xFF, 0x24, 0x42, some 3) := by
  decide +kernel

theorem test_V34_php :
    after (start 0x8000 [0x08] [] (fun s => { s with P := { s.P with B := true, C := true } }))
        (fun t => (t.S, t.P.pack, t.mem.read 0x01FD, t.cycles)) = some (0xFC, 0x35, 0x35, some 3) := by
  decide +kernel

theorem test_V36_pla :
    after (start 0x8000 [0x68] [(0x0100, 0x80)] (fun s => { s with S := 0xFF }))
        (fun t => (t.A, t.S, t.P.pack, t.cycles)) = some (0x80, 0x00, 0xA4, some 4) := by
  decide +kernel

theorem test_V37_plp :
    after (start 0x8000 [0x28] [(0x01FD, 0xC3)] (fun s => { s with S := 0xFC }))
        (fun t => (t.S, t.P.pack, t.cycles)) = some (0xFD, 0xE3, some 4) := by
  decide +kernel

theorem test_V50_adc :
    after (start 0x8000 [0x7D, 0xFF, 0x20] [(0x2100, 0x02)] (fun s => { s with A := 0x01, X := 0x01 }))
        (fun t => (t.A, t.P.pack, t.cycles)) = some (0x03, 0x24, some 5) := by
  decide +kernel

theorem test_V46_adc :
    after (start 0x8000 [0x69, 0xFF] [] (fun s => { s with A := 0x80, P := { s.P with C := false } }))
        (fun t => (t.A, t.P.pack, t.cycles)) = some (0x7F, 0x65, some 2) := by
  decide +kernel

theorem test_V48_adc :
    after (start 0x8000 [0x69, 0x01] [] (fun s => { s with A := 0x09, P := { s.P with D := true } }))
        (fun t => (t.A, t.P.pack, t.cycles)) = some (0x0A, 0x2C, some 2) := by
  decide +kernel

theorem test_V52_sbc :
    after (start 0x8000 [0xE9, 0xB0] [] (fun s => { s with A := 0x50, P := { s.P with C := true } }))
        (fun t => (t.A, t.P.pack, t.cycles)) = some (0xA0, 0xE4, some 2) := by
  decide +kernel

theorem test_V57_sbc :
    after (start 0x8000 [0xE9, 0x00] [] (fun s => { s with A := 0x00, P := { s.P with C := false } }))
        (fun t => (t.A, t.P.pack, t.cycles)) = some (0xFF, 0xA4, some 2) := by
  decide +kernel

theorem test_V60_and :
    after
        (start 0x8000 [0x25, 0x10] [(0x0010, 0x80)]
          (fun s => { s with A := 0xFF, P := { s.P with C := true, V := true } }))
        (fun t => (t.A, t.P.pack, t.cycles)) = some (0x80, 0xE5, some 3) := by
  decide +kernel

theorem test_V61_ora :
    after (start 0x8000 [0x09, 0x80] [] (fun s => { s with A := 0x01 }))
        (fun t => (t.A, t.P.pack, t.cycles)) = some (0x81, 0xA4, some 2) := by
  decide +kernel

theorem test_V63_eor :
    after (start 0x8000 [0x49, 0xFF] [] (fun s => { s with A := 0xAA }))
        (fun t => (t.A, t.P.pack, t.cycles)) = some (0x55, 0x24, some 2) := by
  decide +kernel

theorem test_V67_cmp :
    after (start 0x8000 [0xC9, 0x01] [] (fun s => { s with A := 0x80, P := { s.P with V := true } }))
        (fun t => (t.P.pack, t.cycles)) = some (0x65, some 2) := by
  decide +kernel

theorem test_V70_cpx :
    after (start 0x8000 [0xE4, 0x10] [(0x0010, 0x01)] (fun s => { s with X := 0x00 }))
        (fun t => (t.P.pack, t.cycles)) = some (0xA4, some 3) := by
  decide +kernel

theorem test_V72_cpy :
    after (start 0x8000 [0xCC, 0x00, 0x03] [(0x0300, 0x80)] (fun s => { s with Y := 0x7F }))
        (fun t => (t.P.pack, t.cycles)) = some (0xA4, some 4) := by
  decide +kernel

theorem test_V74_bit :
    after
        (start 0x8000 [0x24, 0x10] [(0x0010, 0x3F)]
          (fun s => { s with A := 0xFF, P := { s.P with N := true, V := true } }))
        (fun t => (t.P.pack, t.cycles)) = some (0x24, some 3) := by
  decide +kernel

theorem test_V77_inc :
    after (start 0x8000 [0xFE, 0xFF, 0x20] [(0x2100, 0x7F)] (fun s => { s with X := 0x01 }))
        (fun t => (t.P.pack, t.mem.read 0x2100, t.cycles)) = some (0xA4, 0x80, some 7) := by
  decide +kernel

theorem test_V79_dec :
    after (start 0x8000 [0xD6, 0x10] [(0x0008, 0x01)] (fun s => { s with X := 0xF8 }))
        (fun t => (t.P.pack, t.mem.read 0x0008, t.cycles)) = some (0x26, 0x00, some 6) := by
  decide +kernel

theorem test_V80_inx :
    after (start 0x8000 [0xE8] [] (fun s => { s with X := 0xFF }))
        (fun t => (t.X, t.P.pack, t.cycles)) = some (0x00, 0x26, some 2) := by
  decide +kernel

theorem test_V81_iny :
    after (start 0x8000 [0xC8] [] (fun s => { s with Y := 0x7F }))
        (fun t => (t.Y, t.P.pack, t.cycles)) = some (0x80, 0xA4, some 2) := by
  decide +kernel

theorem test_V83_dex :
    after (start 0x8000 [0xCA] [] (fun s => { s with X := 0x00 }))
        (fun t => (t.X, t.P.pack, t.cycles)) = some (0xFF, 0xA4, some 2) := by
  decide +kernel

theorem test_V84_dey :
    after (start 0x8000 [0x88] [] (fun s => { s with Y := 0x00 }))
        (fun t => (t.Y, t.P.pack, t.cycles)) = some (0xFF, 0xA4, some 2) := by
  decide +kernel

theorem test_V88_asl :
    after (start 0x8000 [0x06, 0x10] [(0x0010, 0xFF)] (fun s => { s with A := 0x55 }))
        (fun t => (t.P.pack, t.mem.read 0x0010, t.cycles)) = some (0xA5, 0xFE, some 5) := by
  decide +kernel

theorem test_V87_asl :
    after (start 0x8000 [0x0A] [] (fun s => { s with A := 0x40, P := { s.P with C := true } }))
        (fun t => (t.A, t.P.pack, t.cycles)) = some (0x80, 0xA4, some 2) := by
  decide +kernel

theorem test_V91_lsr :
    after (start 0x8000 [0x5E, 0xFF, 0x20] [(0x2100, 0xFF)] (fun s => { s with X := 0x01 }))
        (fun t => (t.P.pack, t.mem.read 0x2100, t.cycles)) = some (0x25, 0x7F, some 7) := by
  decide +kernel

theorem test_V94_rol :
    after (start 0x8000 [0x26, 0x10] [(0x0010, 0x00)] (fun s => { s with P := { s.P with C := true } }))
        (fun t => (t.P.pack, t.mem.read 0x0010, t.cycles)) = some (0x24, 0x01, some 5) := by
  decide +kernel

theorem test_V97_ror :
    after (start 0x8000 [0x66, 0x10] [(0x0010, 0x01)] (fun s => { s with P := { s.P with C := true } }))
        (fun t => (t.P.pack, t.mem.read 0x0010, t.cycles)) = some (0xA5, 0x80, some 5) := by
  decide +kernel

theorem test_V96_ror :
    after (start 0x8000 [0x6A] [] (fun s => { s with A := 0x00, P := { s.P with C := true } }))
        (fun t => (t.A, t.P.pack, t.cycles)) = some (0x80, 0xA4, some 2) := by
  decide +kernel

theorem test_V100_jmp :
    after (start 0x8000 [0x4C, 0x00, 0x80] [] id)
        (fun t => (t.PC, t.P.pack, t.cycles)) = some (0x8000, 0x24, some 3) := by
  decide +kernel

theorem test_V102_jmp :
    after (start 0x8000 [0x6C, 0xFF, 0x02] [(0x02FF, 0x34), (0x0200, 0x12), (0x0300, 0x56)] id)
        (fun t => (t.PC, t.P.pack, t.cycles)) = some (0x1234, 0x24, some 5) := by
  decide +kernel

theorem test_V104_jsr :
    after (start 0x8000 [0x20, 0x34, 0x12] [] (fun s => { s with S := 0x00 }))
        (fun t => (t.S, t.PC, t.P.pack, t.mem.read 0x0100, t.mem.read 0x01FF, t.cycles)) =
      some (0xFE, 0x1234, 0x24, 0x80, 0x02, some 6) := by
  decide +kernel

theorem test_V107_rts :
    after (start 0x8000 [0x60] [(0x01FC, 0xFF), (0x01FD, 0xFF)] (fun s => { s with S := 0xFB }))
        (fun t => (t.S, t.PC, t.P.pack, t.cycles)) = some (0xFD, 0x0000, 0x24, some 6) := by
  decide +kernel

theorem test_V109_bcc :
    after (start 0x8000 [0x90, 0x04] [] (fun s => { s with P := { s.P with C := true } }))
        (fun t => (t.P.pack, t.cycles)) = some (0x25, some 2) := by
  decide +kernel

theorem test_V110_bcs :
    after (start 0x8000 [0xB0, 0xFE] [] (fun s => { s with P := { s.P with C := true } }))
        (fun t => (t.PC, t.P.pack, t.cycles)) = some (0x8000, 0x25, some 3) := by
  decide +kernel

theorem test_V119_beq :
    after (start 0xFFFD [0xF0, 0x01] [] (fun s => { s with P := { s.P with Z := true } }))
        (fun t => (t.PC, t.P.pack, t.cycles)) = some (0x0000, 0x26, some 4) := by
  decide +kernel

theorem test_V112_bne :
    after (start 0x8003 [0xD0, 0xFD] [] id)
        (fun t => (t.PC, t.P.pack, t.cycles)) = some (0x8002, 0x24, some 3) := by
  decide +kernel

theorem test_V113_bmi :
    after (start 0x8000 [0x30, 0x7F] [] (fun s => { s with P := { s.P with N := true } }))
        (fun t => (t.PC, t.P.pack, t.cycles)) = some (0x8081, 0xA4, some 3) := by
  decide +kernel

theorem test_V114_bpl :
    after (start 0x8000 [0x10, 0x80] [] id)
        (fun t => (t.PC, t.P.pack, t.cycles)) = some (0x7F82, 0x24, some 4) := by
  decide +kernel

theorem test_V116_bvc :
    after (start 0x8000 [0x50, 0x02] [] (fun s => { s with P := { s.P with V := true } }))
        (fun t => (t.P.pack, t.cycles)) = some (0x64, some 2) := by
  decide +kernel

theorem test_V117_bvs :
    after (start 0x8000 [0x70, 0x02] [] (fun s => { s with P := { s.P with V := true } }))
        (fun t => (t.PC, t.P.pack, t.cycles)) = some (0x8004, 0x64, some 3) := by
  decide +kernel

theorem test_V121_brk :
    after
        (start 0x8000 [0x00] [(0xFFFE, 0x00), (0xFFFF, 0x90)]
          (fun s => { s with P := { s.P with C := true, N := true, I := false, D := true } }))
        (fun t => (t.S, t.PC, t.P.pack, t.mem.read 0x01FB, t.mem.read 0x01FC, t.mem.read 0x01FD, t.cycles)) =
      some (0xFA, 0x9000, 0xAD, 0xB9, 0x02, 0x80, some 7) := by
  decide +kernel

theorem test_V124_rti :
    after
        (start 0x8000 [0x40] [(0x01FB, 0x00), (0x01FC, 0x00), (0x01FD, 0x90)]
          (fun s => { s with S := 0xFA, P := { s.P with C := true } }))
        (fun t => (t.S, t.PC, t.P.pack, t.cycles)) = some (0xFD, 0x9000, 0x20, some 6) := by
  decide +kernel

theorem test_V125_clc :
    after (start 0x8000 [0x18] [] (fun s => { s with P := { s.P with C := true } }))
        (fun t => (t.P.pack, t.cycles)) = some (0x24, some 2) := by
  decide +kernel

theorem test_V126_sec :
    after (start 0x8000 [0x38] [] id)
        (fun t => (t.P.pack, t.cycles)) = some (0x25, some 2) := by
  decide +kernel

theorem test_V127_cli :
    after (start 0x8000 [0x58] [] id)
        (fun t => (t.P.pack, t.cycles)) = some (0x20, some 2) := by
  decide +kernel

theorem test_V128_sei :
    after (start 0x8000 [0x78] [] (fun s => { s with P := { s.P with I := false } }))
        (fun t => (t.P.pack, t.cycles)) = some (0x24, some 2) := by
  decide +kernel

theorem test_V129_cld :
    after (start 0x8000 [0xD8] [] (fun s => { s with P := { s.P with D := true } }))
        (fun t => (t.P.pack, t.cycles)) = some (0x24, some 2) := by
  decide +kernel

theorem test_V130_sed :
    after (start 0x8000 [0xF8] [] id)
        (fun t => (t.P.pack, t.cycles)) = some (0x2C, some 2) := by
  decide +kernel

theorem test_V131_clv :
    after (start 0x8000 [0xB8] [] (fun s => { s with P := { s.P with V := true } }))
        (fun t => (t.P.pack, t.cycles)) = some (0x24, some 2) := by
  decide +kernel

theorem test_V133_nop :
    after (start 0xFFFF [0xEA] [] id)
        (fun t => (t.PC, t.P.pack, t.cycles)) = some (0x0000, 0x24, some 2) := by
  decide +kernel

theorem test_V134_nop :
    after (start 0x8000 [0x1A] [] id)
        (fun t => (t.P.pack, t.cycles)) = some (0x24, some 2) := by
  decide +kernel

theorem test_V137_nop :
    after (start 0x8000 [0x1C, 0xFF, 0x00] [] (fun s => { s with X := 0x01 }))
        (fun t => (t.P.pack, t.cycles)) = some (0x24, some 5) := by
  decide +kernel

theorem test_V140_lax :
    after (start 0x8000 [0xB3, 0x10] [(0x0010, 0xFF), (0x0011, 0x20), (0x2100, 0x00)] (fun s => { s with Y := 0x01 }))
        (fun t => (t.P.pack, t.cycles)) = some (0x26, some 6) := by
  decide +kernel

theorem test_V142_sax :
    after (start 0x8000 [0x83, 0x10] [(0x0012, 0x00), (0x0013, 0x03)] (fun s => { s with A := 0xFF, X := 0x02 }))
        (fun t => (t.P.pack, t.mem.read 0x0300, t.cycles)) = some (0x24, 0x02, some 6) := by
  decide +kernel

theorem test_V143_sbc :
    after (start 0x8000 [0xEB, 0x01] [] (fun s => { s with A := 0x10, P := { s.P with C := true } }))
        (fun t => (t.A, t.P.pack, t.cycles)) = some (0x0F, 0x25, some 2) := by
  decide +kernel

theorem test_V145_dcp :
    after (start 0x8000 [0xC7, 0x10] [(0x0010, 0x00)] (fun s => { s with A := 0x00 }))
        (fun t => (t.P.pack, t.mem.read 0x0010, t.cycles)) = some (0x24, 0xFF, some 5) := by
  decide +kernel

theorem test_V146_isc :
    after (start 0x8000 [0xE7, 0x10] [(0x0010, 0x0F)] (fun s => { s with A := 0x10, P := { s.P with C := true } }))
        (fun t => (t.A, t.P.pack, t.mem.read 0x0010, t.cycles)) = some (0x00, 0x27, 0x10, some 5) := by
  decide +kernel

theorem test_V148_slo :
    after (start 0x8000 [0x07, 0x10] [(0x0010, 0x81)] (fun s => { s with A := 0x01 }))
        (fun t => (t.A, t.P.pack, t.mem.read 0x0010, t.cycles)) = some (0x03, 0x25, 0x02, some 5) := by
  decide +kernel

theorem test_V149_rla :
    after (start 0x8000 [0x27, 0x10] [(0x0010, 0x40)] (fun s => { s with A := 0xFF, P := { s.P with C := true } }))
        (fun t => (t.A, t.P.pack, t.mem.read 0x0010, t.cycles)) = some (0x81, 0xA4, 0x81, some 5) := by
  decide +kernel

theorem test_V150_sre :
    after (start 0x8000 [0x47, 0x10] [(0x0010, 0x03)] (fun s => { s with A := 0x01 }))
        (fun t => (t.A, t.P.pack, t.mem.read 0x0010, t.cycles)) = some (0x00, 0x27, 0x01, some 5) := by
  decide +kernel

theorem test_V152_rra :
    after
        (start 0x8000 [0x7F, 0xFF, 0x20] [(0x2100, 0x02)]
          (fun s => { s with A := 0x7F, X := 0x01, P := { s.P with C := true } }))
        (fun t => (t.A, t.P.pack, t.mem.read 0x2100, t.cycles)) = some (0x00, 0x27, 0x81, some 7) := by
  decide +kernel

theorem test_V154_anc :
    after (start 0x8000 [0x2B, 0x7F] [] (fun s => { s with A := 0xFF, P := { s.P with C := true } }))
        (fun t => (t.A, t.P.pack, t.cycles)) = some (0x7F, 0x24, some 2) := by
  decide +kernel

theorem test_V155_alr :
    after (start 0x8000 [0x4B, 0x03] [] (fun s => { s with A := 0xFF }))
        (fun t => (t.A, t.P.pack, t.cycles)) = some (0x01, 0x25, some 2) := by
  decide +kernel

theorem test_V157_arr :
    after (start 0x8000 [0x6B, 0xFF] [] (fun s => { s with A := 0x40, P := { s.P with C := false } }))
        (fun t => (t.A, t.P.pack, t.cycles)) = some (0x20, 0x64, some 2) := by
  decide +kernel

theorem test_V160_sbx :
    after (start 0x8000 [0xCB, 0x31] [] (fun s => { s with A := 0xF0, X := 0x3C, P := { s.P with C := true } }))
        (fun t => (t.X, t.P.pack, t.cycles)) = some (0xFF, 0xA4, some 2) := by
  decide +kernel

theorem test_V161_las :
    after (start 0x8000 [0xBB, 0x00, 0x02] [(0x0200, 0x0F)] id)
        (fun t => (t.A, t.X, t.S, t.P.pack, t.cycles)) = some (0x0D, 0x0D, 0x0D, 0x24, some 4) := by
  decide +kernel

theorem test_V164_jam :
    after (start 0x8000 [0x22] [] (fun s => { s with A := 0x11 }))
        (fun t => (t.P.pack, t.cycles, t.halted)) = some (0x24, none, true) := by
  decide +kernel

/-! ### The outcomes that are no next state, and the order of bus calls -/

theorem test_refuses_ane :
    (stepOutcome (start 0x8000 [0x8B, 0xFF] [] id)).1 = .unimplementedBehavior 0x8B 0x8000 := by
  decide +kernel

theorem test_refuses_lxa :
    (stepOutcome (start 0x8000 [0xAB, 0xFF] [] id)).1 = .unimplementedBehavior 0xAB 0x8000 := by
  decide +kernel

theorem test_refuses_sha :
    (stepOutcome (start 0x8000 [0x93, 0x10] [] id)).1 = .unimplementedBehavior 0x93 0x8000 := by
  decide +kernel

theorem test_refuses_shx :
    (stepOutcome (start 0x8000 [0x9E, 0x00, 0x02] [] id)).1 = .unimplementedBehavior 0x9E 0x8000 := by
  decide +kernel

theorem test_refuses_shy :
    (stepOutcome (start 0x8000 [0x9C, 0x00, 0x02] [] id)).1 = .unimplementedBehavior 0x9C 0x8000 := by
  decide +kernel

theorem test_refuses_tas :
    (stepOutcome (start 0x8000 [0x9B, 0x00, 0x02] [] id)).1 = .unimplementedBehavior 0x9B 0x8000 := by
  decide +kernel

theorem test_halted_core_refuses :
    stepOutcome (start 0x8000 [0xEA] [] fun s => { s with halted := true }) =
      (.steppedWhileHalted, start 0x8000 [0xEA] [] fun s => { s with halted := true }) := by
  decide +kernel

/-- E10: the order of the calls of an indirect jump. -/
theorem test_E10_bus_calls :
    after (start 0x8000 [0x6C, 0xFF, 0x02] [(0x02FF, 0x34), (0x0200, 0x12)] id) (fun t => t.bus) =
      some [.read 0x8000 0x6C, .read 0x8001 0xFF, .read 0x8002 0x02, .read 0x02FF 0x34, .read 0x0200 0x12] := by
  decide +kernel

/-! ### Reset -/

theorem test_reset_agrees_with_the_procedure : State.reset.resetFrom = State.reset := by decide +kernel
theorem test_reset_memory_is_canonical : State.reset.mem.wf := by decide
/-- R240 on a vector that holds 0x1234, from a halted core with other register values. -/
theorem test_reset_loads_the_vector :
    (start 0x8000 [] [(0xFFFC, 0x34), (0xFFFD, 0x12)] fun s => { s with A := 0x55, S := 0x10, halted := true }).resetFrom =
      { start 0x1234 [] [(0xFFFC, 0x34), (0xFFFD, 0x12)] id with
        bus := [.read 0xFFFC 0x34, .read 0xFFFD 0x12] } := by
  decide +kernel
/-- The next step runs the instruction that `withFetchWord` places, right after reset. -/
theorem test_placed_word_runs : after (State.reset.withFetchWord 16 0x85A9) (fun t => (t.A, t.PC)) = some (0x85, 0x0002) := by
  decide +kernel
/-- E2 through the raw-bytes entry point. -/
theorem test_E2_run_bytes :
    (runBytes Config.machine 5 [0xA9, 0x85] id).map (fun r => (r.ending, r.cycles)) = some (.ranOffTheEnd, 2) := by
  decide +kernel

/-- R244, `n = 65536 - STREAM_BASE`: no PC is the end of the stream, and the run goes on past 0xFFFF. -/
theorem test_run_bytes_to_the_end_of_memory :
    (runBytes { Config.machine with streamBase := 0xFFFE } 1 [0xA9, 0x85] id).map (fun r => (r.ending, r.state.PC)) =
      some (.outOfFuel, 0x0000) := by
  decide +kernel
/-- R244 gives no run to a longer stream. -/
theorem test_run_bytes_too_long :
    runBytes { Config.machine with streamBase := 0xFFFE } 1 [0xA9, 0x85, 0xEA] id = none := by
  decide +kernel

/-! ### Other platforms (R4, R30) -/

/-- A bus whose state is one byte that each read hands out and steps on, a read with a side effect; a write sets it. -/
def counterBus : Platform Byte where
  config := { Config.machine with resetA := 0x77, resetVector := 0x1000 }
  read := fun b _ => (b, b + 1)
  write := fun _ _ v => v

/-- R30: `LDA #` takes its two bytes 0xA9 and 0xAA from two reads of such a bus. -/
theorem test_side_effect_of_a_read :
    let r := stepOutcomeOn (State.On.entry (M := counterBus) 0x8000 0xA9)
    (r.1, r.2.A, r.2.mem, r.2.bus) = (.ok 2, 0xAA, 0xAB, [.read 0x8000 0xA9, .read 0x8001 0xAA]) := by
  decide +kernel
/-- R240: reset of that platform takes its own parameters and its two reads. -/
theorem test_reset_of_another_platform :
    let t := (State.On.entry (M := counterBus) 0x8000 0x10).resetFrom
    (t.A, t.PC, t.mem, t.bus) = (0x77, 0x1110, 0x12, [.read 0x1000 0x10, .read 0x1001 0x11]) := by
  decide +kernel
/-- R157 with another BRK_VECTOR. -/
theorem test_brk_takes_the_vector_of_its_platform :
    (stepOutcomeOn (State.On.entry (M := Platform.flat { Config.machine with brkVector := 0x2000 }) 0x8000
      [(0x2000, 0x34), (0x2001, 0x12)])).2.PC = 0x1234 := by
  decide +kernel

/-! ### Witnesses: the hypotheses of each obligation are met -/

/-- The state after reset with PC at 0x8000. -/
def s0 : State := start 0x8000 [] [] id

/-- A halted core. -/
def sHalted : State := start 0x8000 [] [] fun s => { s with halted := true }

theorem test_witness_EncodeInvertsDecode :
    decode [0xAD, 0x34, 0x12, 0xEA] = .ok (.ldaAbs 0x1234, [0xEA]) ∧ decode [0xEA] = .ok (.nop, []) ∧
      decode [0xFF, 0xFF, 0xFF] = .ok (.iscAbx 0xFFFF, []) := by decide +kernel
theorem test_witness_EncodeInvertsDecode_short :
    (lookup 0xAD).length = ([0x34, 0x12] : List Byte).length + 1 ∧ ¬ (lookup 0xAD).length ≤ ([0x34] : List Byte).length + 1 := by
  decide
theorem test_witness_PlacedWordIsFetched :
    decodeTableWord 16 0x85A9 = some (.ldaImm 0x85) ∧ decodeTableWord 8 0x02 = some .jam02 ∧
      decodeTableWord 24 0xFFFFFF = some (.iscAbx 0xFFFF) := by decide +kernel

/-- Lengths 1, 2 and 3, the last one around the end of the address space, and an opcode of which one byte is fetched. -/
theorem test_witness_StepRunsTheDecodedInstruction :
    (let s := start 0x8000 [0xEA] [] id;
      s.halted = false ∧ decode [s.mem.read s.PC, s.mem.read (s.PC + 1), s.mem.read (s.PC + 2)] = .ok (.nop, [0, 0])) ∧
    (let s := start 0x8000 [0xA9, 0x85] [] id;
      s.halted = false ∧
        decode [s.mem.read s.PC, s.mem.read (s.PC + 1), s.mem.read (s.PC + 2)] = .ok (.ldaImm 0x85, [0])) ∧
    (let s := start 0xFFFE [0xAD, 0x34, 0x12] [] id;
      s.halted = false ∧
        decode [s.mem.read s.PC, s.mem.read (s.PC + 1), s.mem.read (s.PC + 2)] = .ok (.ldaAbs 0x1234, [])) ∧
    (let s := start 0x8000 [0x8B, 0x10] [] id;
      s.halted = false ∧
        decode [s.mem.read s.PC, s.mem.read (s.PC + 1), s.mem.read (s.PC + 2)] = .ok (.aneImm 0x10, [0]) ∧
        (Instr.aneImm 0x10).descriptor.cls = .unimplemented) := by decide +kernel

theorem test_witness_HaltedCoreRefusesToStep : sHalted.halted = true := by decide +kernel

/-- One opcode of each class. -/
theorem test_witness_StepOutcomeFollowsTheClass :
    ([0x00, 0xFF, 0xF2, 0x9F].map fun op => (start 0x8000 [op] [] id).halted) = [false, false, false, false] ∧
      ([0x00, 0xFF, 0xF2, 0x9F].map fun op => (lookup ((start 0x8000 [op] [] id).mem.read 0x8000)).cls) =
        [.official, .unofficial, .jam, .unimplemented] := by decide +kernel

/-- A store, and the step that halts. -/
theorem test_witness_StepKeepsTheInvariant :
    (start 0x8000 [0x85, 0x10] [] fun s => { s with A := 1 }).Inv ∧
      (after (start 0x8000 [0x85, 0x10] [] fun s => { s with A := 1 }) fun t => t.mem.read 0x10) = some 1 ∧
      (start 0x8000 [0x02] [] id).Inv ∧ (after (start 0x8000 [0x02] [] id) fun t => t.halted) = some true := by
  decide +kernel

theorem test_witness_ResetEstablishesTheInvariant : (start 0x8000 [0xEA] [(0, 1)] id).mem.wf := by decide +kernel
theorem test_witness_ResetStateHasTheDefaultValues : sHalted.mem = [] := by decide +kernel

/-- An instruction of each mnemonic that an obligation names; the first and the last row of those with several. -/
theorem test_witness_mnemonics :
    [Instr.ldaIzx 0, .ldaAbx 0xFFFF, .ldxImm 0, .ldxAby 0xFFFF, .ldyImm 0, .ldyAbx 0xFFFF].map Instr.mnemonic =
      [.LDA, .LDA, .LDX, .LDX, .LDY, .LDY] ∧
    [Instr.staIzx 0, .staAbx 0xFFFF, .stxZp 0, .stxZpy 0xFF, .styZp 0, .styZpx 0xFF].map Instr.mnemonic =
      [.STA, .STA, .STX, .STX, .STY, .STY] ∧
    [Instr.adcIzx 0, .adcAbx 0xFFFF, .sbcIzx 0, .sbcImm 0, .sbcImmEB 0, .sbcAbx 0xFFFF].map Instr.mnemonic =
      [.ADC, .ADC, .SBC, .SBC, .SBC, .SBC] ∧
    [Instr.andIzx 0, .andAbx 0xFFFF, .oraIzx 0, .oraAbx 0xFFFF, .eorIzx 0, .eorAbx 0xFFFF].map Instr.mnemonic =
      [.AND, .AND, .ORA, .ORA, .EOR, .EOR] ∧
    [Instr.cmpIzx 0, .cmpAbx 0xFFFF, .cpxImm 0, .cpxAbs 0, .cpyImm 0, .cpyAbs 0].map Instr.mnemonic =
      [.CMP, .CMP, .CPX, .CPX, .CPY, .CPY] ∧
    [Instr.bitZp 0, .bitAbs 0xFFFF, .incZp 0, .incAbx 0xFFFF, .decZp 0, .decAbx 0xFFFF].map Instr.mnemonic =
      [.BIT, .BIT, .INC, .INC, .DEC, .DEC] ∧
    [Instr.aslAcc, .aslAbx 0, .lsrAcc, .lsrAbx 0, .rolAcc, .rolAbx 0, .rorAcc, .rorAbx 0].map Instr.mnemonic =
      [.ASL, .ASL, .LSR, .LSR, .ROL, .ROL, .ROR, .ROR] ∧
    [Instr.nop, .nop1A, .nopImm80 0, .nopZp04 0, .nopZpxF4 0, .nopAbs 0, .nopAbxFC 0].map Instr.mnemonic =
      [.NOP, .NOP, .NOP, .NOP, .NOP, .NOP, .NOP] ∧
    [Instr.laxIzx 0, .laxAby 0, .saxIzx 0, .saxZpy 0, .lasAby 0].map Instr.mnemonic = [.LAX, .LAX, .SAX, .SAX, .LAS] ∧
    [Instr.dcpIzx 0, .dcpAbx 0, .iscIzx 0, .iscAbx 0].map Instr.mnemonic = [.DCP, .DCP, .ISC, .ISC] ∧
    [Instr.sloIzx 0, .sloAbx 0, .rlaIzx 0, .rlaAbx 0, .sreIzx 0, .sreAbx 0, .rraIzx 0, .rraAbx 0].map Instr.mnemonic =
      [.SLO, .SLO, .RLA, .RLA, .SRE, .SRE, .RRA, .RRA] := by decide +kernel

theorem test_witness_JamHaltsTheCore :
    Instr.mnemonic .jam02 = .JAM ∧ (start 0xFFFF [0x02] [] id).halted = false ∧
      (start 0xFFFF [0x02] [] id).mem.read 0xFFFF = Instr.opcode .jam02 ∧
    Instr.mnemonic .jamF2 = .JAM ∧ (start 0x0000 [0xF2] [] id).halted = false ∧
      (start 0x0000 [0xF2] [] id).mem.read 0x0000 = Instr.opcode .jamF2 := by
  decide +kernel

/-- Each of the seven opcodes at PC of a running core. -/
theorem test_witness_UnstableOpcodesAreRefused :
    (([0x8B, 0xAB, 0x93, 0x9F, 0x9E, 0x9C, 0x9B] : List Byte).map fun op =>
      ((start 0x8000 [op] [] id).halted, (start 0x8000 [op] [] id).mem.read 0x8000)) =
      [(false, 0x8B), (false, 0xAB), (false, 0x93), (false, 0x9F), (false, 0x9E), (false, 0x9C), (false, 0x9B)] := by
  decide +kernel

/-- No transfer, and a branch that is not taken. -/
theorem test_witness_OnlyControlTransfersWriteThePC :
    (∃ t, exec (.ldaImm 0) s0 = .next t) ∧ Instr.mnemonic (.ldaImm 0) ∉ ([.JMP, .JSR, .RTS, .RTI, .BRK] : List Mnemonic) ∧
      branchTaken (Instr.mnemonic (.ldaImm 0)) s0.P = false ∧
    (∃ t, exec (.beq 0x10) s0 = .next t) ∧ branchTaken (Instr.mnemonic (.beq 0x10)) s0.P = false :=
  ⟨⟨_, rfl⟩, by decide, by decide +kernel, ⟨_, rfl⟩, by decide +kernel⟩

/-- For each clause an instruction that answers a next state and meets its premise. -/
theorem test_witness_FlagsChangeOnlyWhereTheTableSays :
    (∃ t, exec (.staZp 0) s0 = .next t) ∧ Instr.mnemonic (.staZp 0) ∉ nzWriters ∧
    (∃ t, exec .inx s0 = .next t) ∧ Instr.mnemonic .inx ∉ cWriters ∧
    (∃ t, exec (.cmpImm 0) s0 = .next t) ∧ Instr.mnemonic (.cmpImm 0) ∉ vWriters ∧
      Instr.mnemonic (.cmpImm 0) ∉ ([.CLI, .SEI, .BRK, .PLP, .RTI] : List Mnemonic) ∧
      Instr.mnemonic (.cmpImm 0) ∉ ([.CLD, .SED, .PLP, .RTI] : List Mnemonic) ∧
    (∃ t, exec .brk s0 = .next t) ∧ Instr.mnemonic .brk ∉ ([.PLP, .RTI] : List Mnemonic) ∧
      Instr.mnemonic .brk = .BRK ∧
    (∃ t, exec .sei s0 = .next t) ∧ Instr.mnemonic .sei = .SEI ∧
    (∃ t, exec .clv s0 = .next t) ∧ Instr.mnemonic .clv = .CLV ∧
    (∃ t, exec .cli s0 = .next t) ∧ Instr.mnemonic .cli = .CLI ∧
    (∃ t, exec .sed s0 = .next t) ∧ Instr.mnemonic .sed = .SED ∧
    (∃ t, exec .cld s0 = .next t) ∧ Instr.mnemonic .cld = .CLD ∧
    (∃ t, exec .sec s0 = .next t) ∧ Instr.mnemonic .sec = .SEC ∧
    (∃ t, exec .clc s0 = .next t) ∧ Instr.mnemonic .clc = .CLC :=
  ⟨⟨_, rfl⟩, by decide, ⟨_, rfl⟩, by decide, ⟨_, rfl⟩, by decide, by decide, by decide, ⟨_, rfl⟩, by decide, rfl, ⟨_, rfl⟩, rfl,
    ⟨_, rfl⟩, rfl, ⟨_, rfl⟩, rfl, ⟨_, rfl⟩, rfl, ⟨_, rfl⟩, rfl, ⟨_, rfl⟩, rfl, ⟨_, rfl⟩, rfl⟩

/-- A shift of memory leaves A, a shift of A leaves X, Y and S, and a JAM sets halted. -/
theorem test_witness_RegistersChangeOnlyByTheirWriters :
    (∃ t, exec (.aslZp 0) s0 = .next t) ∧ Instr.operand (.aslZp 0) ≠ .accumulator ∧
      Instr.mnemonic (.aslZp 0) ∉ ([.LDA, .TXA, .TYA, .PLA, .ADC, .SBC, .AND, .ORA, .EOR, .LAX, .SLO, .RLA, .SRE, .RRA, .ISC,
        .ANC, .ALR, .ARR, .LAS] : List Mnemonic) ∧
    (∃ t, exec .aslAcc s0 = .next t) ∧
      Instr.mnemonic .aslAcc ∉ ([.LDX, .TAX, .TSX, .INX, .DEX, .LAX, .SBX, .LAS] : List Mnemonic) ∧
      Instr.mnemonic .aslAcc ∉ ([.LDY, .TAY, .INY, .DEY] : List Mnemonic) ∧
      Instr.mnemonic .aslAcc ∉ ([.PHA, .PHP, .PLA, .PLP, .JSR, .RTS, .BRK, .RTI, .TXS, .LAS] : List Mnemonic) ∧
      Instr.mnemonic .aslAcc ≠ .JAM ∧
    (∃ t, exec .jam02 s0 = .next t) ∧ Instr.mnemonic .jam02 = .JAM :=
  ⟨⟨_, rfl⟩, by decide, by decide, ⟨_, rfl⟩, by decide, by decide, by decide, by decide, ⟨_, rfl⟩, rfl⟩

/-- Each clause, with addresses next to the byte stored and a stack pointer that wraps. -/
theorem test_witness_MemoryChangesOnlyWhereStored :
    (∃ t, exec (.ldaAbs 0x10) s0 = .next t) ∧ Instr.mnemonic (.ldaAbs 0x10) ∉ eaWriters ∧
      Instr.mnemonic (.ldaAbs 0x10) ∉ pushers ∧
    (∃ t, exec .rolAcc s0 = .next t) ∧ Instr.operand .rolAcc = .accumulator ∧
    (∃ t, exec (.staAbs 0xFFFF) s0 = .next t) ∧ Instr.mnemonic (.staAbs 0xFFFF) ∈ eaWriters ∧
      (0x0000 : Addr) ≠ ea (.staAbs 0xFFFF) s0 ∧ (0xFFFE : Addr) ≠ ea (.staAbs 0xFFFF) s0 ∧
    (∃ t, exec .brk { s0 with S := 0x01 } = .next t) ∧ Instr.mnemonic .brk ∈ pushers ∧
      (0x01FE : Addr) ≠ stackAddr 0x01 ∧ (0x01FE : Addr) ≠ stackAddr (0x01 - 1) ∧ (0x01FE : Addr) ≠ stackAddr (0x01 - 2) ∧
    (∃ t, exec .php { s0 with S := 0x00 } = .next t) ∧ Instr.mnemonic .php = .PHP ∧ (0x01FF : Addr) ≠ stackAddr 0x00 ∧
    (∃ t, exec (.jsr 0) { s0 with S := 0x00 } = .next t) ∧ Instr.mnemonic (.jsr 0) = .JSR ∧
      (0x01FE : Addr) ≠ stackAddr 0x00 ∧ (0x01FE : Addr) ≠ stackAddr (0x00 - 1) :=
  ⟨⟨_, rfl⟩, by decide, by decide, ⟨_, rfl⟩, rfl, ⟨_, rfl⟩, by decide, by decide, by decide, ⟨_, rfl⟩, by decide, by decide,
    by decide, by decide, ⟨_, rfl⟩, rfl, by decide, ⟨_, rfl⟩, rfl, by decide, by decide⟩

/-- The smallest and the largest count, and both branch penalties. -/
theorem test_witness_CyclesAreBasePlusPenalty :
    (∃ t, exec .nop s0 = .next t) ∧ Instr.mnemonic .nop ≠ .JAM ∧
    (∃ t, exec (.iscIzy 0) s0 = .next t) ∧ Instr.mnemonic (.iscIzy 0) ≠ .JAM ∧
    (∃ t, exec (.ldaAbx 0x12FF) { s0 with X := 1 } = .next t) ∧ penaltyOf (.ldaAbx 0x12FF) { s0 with X := 1 } = 1 ∧
    (∃ t, exec (.bne 0x7F) s0 = .next t) ∧ penaltyOf (.bne 0x7F) s0 = 1 ∧
    (∃ t, exec (.bne 0x80) s0 = .next t) ∧ penaltyOf (.bne 0x80) s0 = 2 :=
  ⟨⟨_, rfl⟩, by decide, ⟨_, rfl⟩, by decide, ⟨_, rfl⟩, by decide +kernel, ⟨_, rfl⟩, by decide +kernel, ⟨_, rfl⟩,
    by decide +kernel⟩

theorem test_witness_OnlyUnstableOpcodesDoNotComplete :
    (Instr.brk).descriptor.cls ≠ .unimplemented ∧ (Instr.jam02).descriptor.cls ≠ .unimplemented ∧
      (Instr.iscAbx 0xFFFF).descriptor.cls ≠ .unimplemented := by decide

/-- A successful step, and a run of it. -/
theorem test_witness_SuccessfulRunsKeepTheInvariantAndNeverHalt :
    let s := start 0x8000 [0xEA] [] id;
    s.Inv ∧ s.halted = false ∧ SuccessfulStep s 2 (stepOutcome s).2 ∧ ∃ t, SuccessfulRun s t ∧ t.PC = 0x8001 :=
  ⟨by decide +kernel, by decide +kernel, by unfold SuccessfulStep; decide +kernel,
    (stepOutcome (start 0x8000 [0xEA] [] id)).2,
    .step _ _ _ 2 (.start _) (by unfold SuccessfulStep; decide +kernel), by decide +kernel⟩

end Sys2Proof.Tests
end

/-! Proofs about the parameters of the machine (spec/00_scope.md R4): any bus is reached by its calls alone, and a step runs
the instruction whose bytes stand at `PC`. -/

namespace Sys2Proof.Machine

open Sys2Proof Sys2Proof.Claims

/-! ### What bus calls keep, a step keeps -/

section AnyPlatform

variable {β : Type} {M : Platform β}

/-- A step with any outcome keeps the property, from the empty record of calls on. -/
theorem KeptByCalls.stepOutcomeOn {P : State.On M → Prop} (hP : KeptByCalls P) {s : State.On M} (h : P (s.setBus [])) :
    P (stepOutcomeOn s).2 := by
  have h0 : P ((s.setCycles none).setBus []) := hP.registers (s := s.setBus []) rfl rfl h
  have hnext : ∀ t, stepOn s = .next t → P t := by
    intro t ht
    cases hh : s.halted with
    | true => simp [stepOn, hh] at ht
    | false =>
      rw [stepOn, hh] at ht
      exact hP.execOn (hP.fetch h) ht
  unfold Machine.stepOutcomeOn State.On.outcome
  cases hr : stepOn s with
  | next t => cases hc : t.cycles <;> simpa only [hc] using hnext t hr
  | fault r => exact h0
  | refused r => cases r <;> exact hP.read _ _ h0

/-! ### The recorded calls, made again -/

theorem replay_append (b : β) (l l' : List BusAccess) :
    replay M b (l ++ l') = (replay M b l).bind fun b' => replay M b' l' := by
  induction l generalizing b with
  | nil => rfl
  | cons c l ih =>
    cases c with
    | read a v => by_cases hv : (M.read b a).1 = v <;> simp [replay, hv, ih]
    | write a v => simp [replay, ih]

/-- One more call, recorded with the byte that moved, leads from the bus state before it to the one after it. -/
theorem keptByCalls_replay (b : β) : KeptByCalls fun s : State.On M => replay M b s.bus = some s.mem where
  read a s h := by
    show replay M b (s.bus ++ [.read a (M.read s.mem a).1]) = some (M.read s.mem a).2
    simp [replay_append, h, replay]
  write a v s h := by
    show replay M b (s.bus ++ [.write a v]) = some (M.write s.mem a v)
    simp [replay_append, h, replay]
  registers hb hm h := by rw [hb, hm, h]

theorem replay_stepOutcomeOn (s : State.On M) :
    replay M s.mem (stepOutcomeOn s).2.bus = some (stepOutcomeOn s).2.mem :=
  (keptByCalls_replay s.mem).stepOutcomeOn rfl

theorem replay_resetFrom (s : State.On M) : replay M s.mem s.resetFrom.bus = some s.resetFrom.mem :=
  (keptByCalls_replay s.mem).resetWith M.config rfl

end AnyPlatform

/-- On FlatRam a read gives the last byte written at its address. -/
theorem busRead_busWrite_fst (s : State) (a b : Addr) (v : Byte) :
    ((s.busWrite a v).busRead b).1 = if b = a then v else (s.busRead b).1 :=
  Memory.read_write s.mem a b v

/-- Settles O13: replaying the recorded calls is kept by every bus call, hence by a step and by reset. -/
theorem memoryIsReachedOnlyByBusCalls : Obligations.MemoryIsReachedOnlyByBusCalls :=
  ⟨fun _ _ s => ⟨replay_stepOutcomeOn s, replay_resetFrom s⟩,
    fun s a b v => ⟨busRead_busWrite_fst s a b v, State.On.busRead_mem b s⟩, Memory.read_nil⟩

/-! ### The instruction a step runs -/

/-- The number of bytes fetched, by the class of the row (R44). -/
theorem fetchLength_eq (op : Byte) :
    fetchLength op = if (lookup op).cls = .unimplemented then 1 else (lookup op).length := by
  cases h : (lookup op).cls <;> simp [fetchLength, h]

/-- Every row has one, two or three bytes (R53). -/
theorem lookup_length_cases (op : Byte) :
    (lookup op).length = 1 ∨ (lookup op).length = 2 ∨ (lookup op).length = 3 := by
  revert op
  decide +kernel

/-- The instruction decoded from three bytes has the opcode and operand bytes of the one that reads all three. -/
theorem bytes_of_decode {op b1 b2 : Byte} {i : Instr} {rest : List Byte} (h : decode [op, b1, b2] = .ok (i, rest)) :
    i.opcode = op ∧ i.operand.bytes = (instrOf op b1 b2).operand.bytes := by
  rcases lookup_length_cases op with hl | hl | hl <;>
    simp only [decode, hl, Except.ok.injEq, Prod.mk.injEq] at h <;>
    obtain ⟨rfl, -⟩ := h <;>
    exact ⟨instrOf_opcode _ _ _, by simp only [instrOf_bytes, hl, operandBytes]⟩

/-- The instruction decoded from the bytes at `PC` runs as the one the step fetches. -/
theorem exec_of_decode {s : State} {i : Instr} {rest : List Byte}
    (h : decode [s.mem.read s.PC, s.mem.read (s.PC + 1), s.mem.read (s.PC + 2)] = .ok (i, rest)) (t : State) :
    exec i t = exec (instrAt s) t := by
  obtain ⟨hop, hbytes⟩ := bytes_of_decode h
  rw [exec_eq_execOn, exec_eq_execOn, execOn_congr (hop.trans (instrAt_opcode s).symm) hbytes]

/-- Settles O6: a running step executes the decoded instruction in the fetched state. -/
theorem stepRunsTheDecodedInstruction : Obligations.StepRunsTheDecodedInstruction := by
  refine ⟨fun s i rest hrun hdec => ?_, exec_eq_execOn, step_eq_stepOn⟩
  have hd : i.descriptor = lookup (s.mem.read s.PC) := by rw [Instr.descriptor, (bytes_of_decode hdec).1]
  simp only [Instr.length, hd, ← fetchLength_eq]
  rw [step_running hrun, exec_of_decode hdec, State.On.fetched_eq, fetchCalls]

end Sys2Proof.Machine

/-! Proofs about the state (spec/10_state.md): the layout of the packed status byte, and which registers and flags an
instruction can change. -/

namespace Sys2Proof.Machine

open Sys2Proof Sys2Proof.Claims

/-! ### The packed status byte (R18, R19) -/

/-- The layout of R18: each stored flag in its own bit, and bit 5 at 1. -/
theorem Status.pack_bits (p : Status) :
    p.pack[0] = p.C ∧ p.pack[1] = p.Z ∧ p.pack[2] = p.I ∧ p.pack[3] = p.D ∧ p.pack[4] = p.B ∧ p.pack[5] = true ∧
      p.pack[6] = p.V ∧ p.pack[7] = p.N := by
  obtain ⟨C, Z, I, D, B, V, N⟩ := p
  revert C Z I D B V N
  decide

/-- The layout of R19: bit 5 is not looked at. -/
theorem Status.unpack_eq (b : Byte) :
    Status.unpack b = { C := b[0], Z := b[1], I := b[2], D := b[3], B := b[4], V := b[6], N := b[7] } := rfl

theorem Status.unpack_pack (p : Status) : Status.unpack p.pack = p := by
  obtain ⟨hC, hZ, hI, hD, hB, -, hV, hN⟩ := p.pack_bits
  rw [Status.unpack_eq, hC, hZ, hI, hD, hB, hV, hN]

/-- Packing what was unpacked only sets bit 5, bit by bit. -/
theorem Status.pack_unpack (b : Byte) : (Status.unpack b).pack = b ||| 0x20 := by
  have hbits := (Status.unpack b).pack_bits
  rw [Status.unpack_eq] at hbits ⊢
  ext i hi
  rw [BitVec.getElem_or]
  interval_cases i <;> simp [hbits]

/-- Settles O20: the layout of `Pack` gives the round trips bit by bit. -/
theorem packAndUnpackTheStatusByte : Obligations.PackAndUnpackTheStatusByte :=
  fun p b => ⟨p.pack_bits, Status.unpack_eq b, p.unpack_pack, Status.pack_unpack b⟩

/-! ### Who may write what -/

/-- The handlers that overwrite `PC` (R15), branches included. -/
def pcWriters : List Mnemonic :=
  [.JMP, .JSR, .RTS, .RTI, .BRK, .BCC, .BCS, .BEQ, .BNE, .BMI, .BPL, .BVC, .BVS]

/-- Writers of A (R10); the shifts write it too, in their Accumulator mode. -/
def aWriters : List Mnemonic :=
  [.LDA, .TXA, .TYA, .PLA, .ADC, .SBC, .AND, .ORA, .EOR, .LAX, .SLO, .RLA, .SRE, .RRA, .ISC, .ANC, .ALR, .ARR, .LAS]

/-- Writers of X (R11). -/
def xWriters : List Mnemonic := [.LDX, .TAX, .TSX, .INX, .DEX, .LAX, .SBX, .LAS]

/-- Writers of Y (R12). -/
def yWriters : List Mnemonic := [.LDY, .TAY, .INY, .DEY]

/-- Writers of S (R13). -/
def sWriters : List Mnemonic := [.PHA, .PHP, .PLA, .PLP, .JSR, .RTS, .BRK, .RTI, .TXS, .LAS]

/-- Writers of I in the table of R21. -/
def iWriters : List Mnemonic := [.CLI, .SEI, .BRK, .PLP, .RTI]

/-- Writers of D in the table of R21. -/
def dWriters : List Mnemonic := [.CLD, .SED, .PLP, .RTI]

/-- The instructions that load the whole status byte, and so the only writers of B (R20). -/
def statusLoaders : List Mnemonic := [.PLP, .RTI]

/-- `q` differs from `p` only in flags that an instruction `k` writes. -/
structure StatusFrame (k : Mnemonic) (p q : Status) : Prop where
  Z : k ∉ nzWriters → q.Z = p.Z
  N : k ∉ nzWriters → q.N = p.N
  C : k ∉ cWriters → q.C = p.C
  V : k ∉ vWriters → q.V = p.V
  I : k ∉ iWriters → q.I = p.I
  D : k ∉ dWriters → q.D = p.D
  B : k ∉ statusLoaders → q.B = p.B

/-- `t` differs from `s` only in registers and flags that an instruction `k` with operand `o` writes. Memory and the outputs
of the step are free. -/
structure Frame (k : Mnemonic) (o : Operand) (s t : State) : Prop where
  A : k ∉ aWriters → o ≠ .accumulator → t.A = s.A
  X : k ∉ xWriters → t.X = s.X
  Y : k ∉ yWriters → t.Y = s.Y
  S : k ∉ sWriters → t.S = s.S
  PC : k ∉ pcWriters → t.PC = s.PC
  halted : k ≠ .JAM → t.halted = s.halted
  P : StatusFrame k s.P t.P

/-! ### One rule for each flag write

A rule's premise is that the instruction is a listed writer; it is decided where the mnemonic is known. -/

namespace StatusFrame

variable {k : Mnemonic} {p q r : Status}

theorem refl : StatusFrame k p p :=
  ⟨fun _ => rfl, fun _ => rfl, fun _ => rfl, fun _ => rfl, fun _ => rfl, fun _ => rfl, fun _ => rfl⟩

theorem trans (h : StatusFrame k p q) (h' : StatusFrame k q r) : StatusFrame k p r where
  Z hk := (h'.Z hk).trans (h.Z hk)
  N hk := (h'.N hk).trans (h.N hk)
  C hk := (h'.C hk).trans (h.C hk)
  V hk := (h'.V hk).trans (h.V hk)
  I hk := (h'.I hk).trans (h.I hk)
  D hk := (h'.D hk).trans (h.D hk)
  B hk := (h'.B hk).trans (h.B hk)

theorem nz (z n : Bool) (hk : k ∈ nzWriters := by decide) : StatusFrame k p { p with Z := z, N := n } :=
  { refl with Z := absurd hk, N := absurd hk }

theorem carry (c : Bool) (hk : k ∈ cWriters := by decide) : StatusFrame k p { p with C := c } :=
  { refl with C := absurd hk }

theorem overflow (v : Bool) (hk : k ∈ vWriters := by decide) : StatusFrame k p { p with V := v } :=
  { refl with V := absurd hk }

theorem interruptDisable (i : Bool) (hk : k ∈ iWriters := by decide) : StatusFrame k p { p with I := i } :=
  { refl with I := absurd hk }

theorem decimal (d : Bool) (hk : k ∈ dWriters := by decide) : StatusFrame k p { p with D := d } :=
  { refl with D := absurd hk }

/-- `Unpack` writes every flag. -/
theorem loaded (hk : k ∈ statusLoaders := by decide) : StatusFrame k p q where
  Z := absurd ((by decide : statusLoaders ⊆ nzWriters) hk)
  N := absurd ((by decide : statusLoaders ⊆ nzWriters) hk)
  C := absurd ((by decide : statusLoaders ⊆ cWriters) hk)
  V := absurd ((by decide : statusLoaders ⊆ vWriters) hk)
  I := absurd ((by decide : statusLoaders ⊆ iWriters) hk)
  D := absurd ((by decide : statusLoaders ⊆ dWriters) hk)
  B := absurd hk

end StatusFrame

/-! ### One rule for each state operation -/

/-- A mode other than Implied without an address is Accumulator. -/
theorem accumulator_of_resolve_none {o : Operand} {s : State} (hm : o.mode ≠ .implied)
    (h : (resolve o s).1.operand = .none) : o = .accumulator := by
  cases o with
  | accumulator => rfl
  | implied => exact absurd rfl hm
  | _ => cases h

namespace Frame

variable {k : Mnemonic} {o : Operand} {s t u : State}

theorem refl : Frame k o s s :=
  ⟨fun _ _ => rfl, fun _ => rfl, fun _ => rfl, fun _ => rfl, fun _ => rfl, fun _ => rfl, .refl⟩

theorem trans (h : Frame k o s t) (h' : Frame k o t u) : Frame k o s u where
  A hk ho := (h'.A hk ho).trans (h.A hk ho)
  X hk := (h'.X hk).trans (h.X hk)
  Y hk := (h'.Y hk).trans (h.Y hk)
  S hk := (h'.S hk).trans (h.S hk)
  PC hk := (h'.PC hk).trans (h.PC hk)
  halted hk := (h'.halted hk).trans (h.halted hk)
  P := h.P.trans h'.P

/-- Memory and the outputs of the step are no registers. -/
theorem memory (m : Memory) (c : Option CycleCount) (l : List BusAccess) :
    Frame k o s { s with mem := m, cycles := c, bus := l } := { refl with }

theorem setA (v : Byte) (hk : k ∈ aWriters := by decide) : Frame k o s (s.setA v) :=
  { refl (o := o) with A := absurd hk }

theorem setX (v : Byte) (hk : k ∈ xWriters := by decide) : Frame k o s (s.setX v) := { refl with X := absurd hk }

theorem setY (v : Byte) (hk : k ∈ yWriters := by decide) : Frame k o s (s.setY v) := { refl with Y := absurd hk }

theorem setS (v : Byte) (hk : k ∈ sWriters := by decide) : Frame k o s (s.setS v) := { refl with S := absurd hk }

theorem setPC (v : Addr) (hk : k ∈ pcWriters := by decide) : Frame k o s (s.setPC v) := { refl with PC := absurd hk }

theorem setHalted (v : Bool) (hk : k = .JAM := by decide) : Frame k o s (s.setHalted v) :=
  { refl with halted := absurd hk }

theorem setP {p : Status} (h : StatusFrame k s.P p) : Frame k o s (s.setP p) := { refl with P := h }

theorem setNZ (v : Byte) (hk : k ∈ nzWriters := by decide) : Frame k o s (s.setNZ v) := setP (.nz _ _ hk)

theorem addCore (m : Byte) (ha : k ∈ aWriters := by decide) (hnz : k ∈ nzWriters := by decide)
    (hc : k ∈ cWriters := by decide) (hv : k ∈ vWriters := by decide) : Frame k o s (s.addCore m) :=
  (setA _ ha).trans (setP (((StatusFrame.carry _ hc).trans (.overflow _ hv)).trans (.nz _ _ hnz)))

theorem compare (r m : Byte) (hnz : k ∈ nzWriters := by decide) (hc : k ∈ cWriters := by decide) :
    Frame k o s (s.compare r m) :=
  setP ((StatusFrame.carry _ hc).trans (.nz _ _ hnz))

theorem bitTest (m : Byte) (hnz : k ∈ nzWriters := by decide) (hv : k ∈ vWriters := by decide) :
    Frame k o s (bitTest m s) :=
  setP ((StatusFrame.overflow (m.getLsbD 6) hv).trans (.nz _ _ hnz))

theorem push (v : Byte) (hk : k ∈ sWriters := by decide) : Frame k o s (s.push v) :=
  (memory _ _ _).trans (setS _ hk)

theorem pull (hk : k ∈ sWriters := by decide) : Frame k o s s.pull.2 := (setS _ hk).trans (memory _ _ _)

theorem push16 (w : Addr) (hk : k ∈ sWriters := by decide) : Frame k o s (s.push16 w) :=
  (push _ hk).trans (push _ hk)

theorem pull16 (hk : k ∈ sWriters := by decide) : Frame k o s s.pull16.2 := (pull hk).trans (pull hk)

theorem readPair (la ha : Addr) : Frame k o s (s.readPair la ha).2 := by
  rw [State.On.readPair_snd]
  exact memory _ _ _

theorem takeTrap (ret : Addr) (hs : k ∈ sWriters := by decide) (hi : k ∈ iWriters := by decide)
    (hpc : k ∈ pcWriters := by decide) : Frame k o s (s.takeTrap ret) :=
  ((((push16 ret hs).trans (push _ hs)).trans (setP (.interruptDisable true hi))).trans (readPair _ _)).trans
    (setPC _ hpc)

theorem returnFromTrap (hs : k ∈ sWriters := by decide) (hp : k ∈ statusLoaders := by decide)
    (hpc : k ∈ pcWriters := by decide) : Frame k o s s.returnFromTrap :=
  (((pull hs).trans (setP (.loaded hp))).trans (pull16 hs)).trans (setPC _ hpc)

theorem resolve (o' : Operand) : Frame k o s (resolve o' s).2 := by
  rw [resolve_snd]
  exact memory _ _ _

theorem readOperand (e : EffectiveOperand) : Frame k o s (readOperand e s).2 := by
  rw [readOperand_snd]
  exact memory _ _ _

/-- A write to an operand writes A only in the Accumulator mode. -/
theorem writeOperand {e : EffectiveOperand} (he : e = .none → o = .accumulator) (v : Byte) :
    Frame k o s (writeOperand e v s) := by
  cases e with
  | none => exact { refl (o := o) with A := fun _ ho => absurd (he rfl) ho }
  | value b => exact refl
  | address a => exact memory _ _ _

/-! ### One rule for each form -/

theorem retire {op : Byte} {p : Nat} (h : Frame k o s t) (ht : retire op p t = .next u) : Frame k o s u := by
  cases ht
  exact h.trans (memory _ _ _)

theorem readForm {op : Byte} {f : Byte → State → State} (ht : readForm op o f s = .next t)
    (hf : ∀ m u, Frame k o u (f m u)) : Frame k o s t :=
  (((resolve o).trans (readOperand _)).trans (hf _ _)).retire ht

theorem storeForm {op : Byte} {v : State → Byte} (ht : storeForm op o v s = .next t) (hm : o.mode ≠ .implied) :
    Frame k o s t :=
  ((resolve o).trans (writeOperand (accumulator_of_resolve_none hm) _)).retire ht

theorem rmwForm {op : Byte} {f : Byte → Status → Byte × Status} {g : Byte → State → State}
    (ht : rmwForm op o f g s = .next t) (hm : o.mode ≠ .implied) (hf : ∀ m p, StatusFrame k p (f m p).2)
    (hg : ∀ m u, Frame k o u (g m u)) : Frame k o s t :=
  ((((resolve o).trans (readOperand _)).trans (setP (hf _ _))).trans
    (writeOperand (accumulator_of_resolve_none hm) _)).trans (hg _ _) |>.retire ht

theorem impliedForm {op : Byte} {f : State → State} (ht : impliedForm op f s = .next t) (hf : Frame k o s (f s)) :
    Frame k o s t :=
  hf.retire ht

theorem jumpForm {op : Byte} {f : Addr → State → State} (ht : jumpForm op o f s = .next t)
    (hf : ∀ a u, Frame k o u (f a u)) : Frame k o s t :=
  ((resolve o).trans (hf _ _)).retire ht

theorem branchForm {op d : Byte} {c : Status → Bool} (ht : branchForm op d c s = .next t)
    (hk : k ∈ pcWriters := by decide) : Frame k o s t := by
  rw [branchForm_eq] at ht
  exact (setPC _ hk).retire ht

end Frame

/-! ### What an instruction can write -/

/-- No row that writes back to its operand is Implied. -/
theorem mode_ne_implied_of_eaWriter {i : Instr} (h : i.mnemonic ∈ eaWriters) : i.operand.mode ≠ .implied := by
  have hrows : ∀ op : Byte, (lookup op).mnemonic ∈ eaWriters → (lookup op).mode ≠ .implied := by decide +kernel
  have hrow := hrows i.opcode
  rw [lookup_mnemonic, lookup_mode] at hrow
  exact hrow h

/-- An instruction that answers a next state changes only what the spec lists it as a writer of. -/
theorem Frame.exec {i : Instr} {s t : State} (h : exec i s = .next t) : Frame i.mnemonic i.operand s t := by
  have hmode := mode_ne_implied_of_eaWriter (i := i)
  rw [exec_eq_execOn, execOn] at h
  cases hk : i.mnemonic <;> rw [hk] at h hmode <;> dsimp only at h
  -- loads, logic, arithmetic and comparison
  case LDA | AND | ORA | EOR => exact readForm h fun _ _ => (setA _).trans (setNZ _)
  case LDX => exact readForm h fun _ _ => (setX _).trans (setNZ _)
  case LDY => exact readForm h fun _ _ => (setY _).trans (setNZ _)
  case LAX => exact readForm h fun _ _ => ((setA _).trans (setX _)).trans (setNZ _)
  case LAS => exact readForm h fun _ _ => (((setA _).trans (setX _)).trans (setS _)).trans (setNZ _)
  case ADC | SBC => exact readForm h fun _ _ => addCore _
  case CMP | CPX | CPY => exact readForm h fun _ _ => compare _ _
  case BIT => exact readForm h fun _ _ => bitTest _
  case ANC => exact readForm h fun _ _ => ((setA _).trans (setNZ _)).trans (setP (.carry _))
  case ALR => exact readForm h fun _ _ => ((setA _).trans (setP (.carry _))).trans (setNZ _)
  case ARR =>
    exact readForm h fun _ _ =>
      ((setA _).trans (setNZ _)).trans (setP ((StatusFrame.carry _).trans (.overflow _)))
  case SBX => exact readForm h fun _ _ => ((setX _).trans (setNZ _)).trans (setP (.carry _))
  case NOP => exact readForm h fun _ _ => refl
  -- stores and read-modify-write
  case STA | STX | STY | SAX => exact storeForm h (hmode (by decide))
  case ASL | LSR | ROL | ROR =>
    exact rmwForm h (hmode (by decide)) (fun _ _ => .carry _) fun _ _ => setNZ _
  case INC | DEC => exact rmwForm h (hmode (by decide)) (fun _ _ => .refl) fun _ _ => setNZ _
  case DCP => exact rmwForm h (hmode (by decide)) (fun _ _ => .refl) fun _ _ => compare _ _
  case ISC => exact rmwForm h (hmode (by decide)) (fun _ _ => .refl) fun _ _ => addCore _
  case RRA => exact rmwForm h (hmode (by decide)) (fun _ _ => .carry _) fun _ _ => addCore _
  case SLO | RLA | SRE =>
    exact rmwForm h (hmode (by decide)) (fun _ _ => .carry _) fun _ _ => (setA _).trans (setNZ _)
  -- control flow
  case JMP => exact jumpForm h fun _ _ => setPC _
  case JSR => exact jumpForm h fun _ _ => (push16 _).trans (setPC _)
  case RTS => exact impliedForm h (.trans pull16 (setPC _))
  case BRK => exact impliedForm h (takeTrap _)
  case RTI => exact impliedForm h returnFromTrap
  case BCC | BCS | BEQ | BNE | BMI | BPL | BVC | BVS => exact branchForm h
  -- stack, transfers, counting and flags
  case PHA | PHP => exact impliedForm h (push _)
  case PLA => exact impliedForm h ((trans pull (setA _)).trans (setNZ _))
  case PLP => exact impliedForm h (.trans pull (setP .loaded))
  case TXA | TYA => exact impliedForm h ((setA _).trans (setNZ _))
  case TAX | TSX | INX | DEX => exact impliedForm h ((setX _).trans (setNZ _))
  case TAY | INY | DEY => exact impliedForm h ((setY _).trans (setNZ _))
  case TXS => exact impliedForm h (setS _)
  case CLC | SEC => exact impliedForm h (setP (.carry _))
  case CLI | SEI => exact impliedForm h (setP (.interruptDisable _))
  case CLD | SED => exact impliedForm h (setP (.decimal _))
  case CLV => exact impliedForm h (setP (.overflow _))
  -- JAM, and the opcodes that answer no next state
  case JAM =>
    cases h
    exact (setHalted _).trans (memory _ _ _)
  case ANE | LXA | SHA | SHX | SHY | TAS => cases h

/-- A branch that is not taken leaves `PC` (R148). -/
theorem branchForm_PC_of_not_taken {op d : Byte} {c : Status → Bool} {s t : State} (h : branchForm op d c s = .next t)
    (hc : c s.P = false) : t.PC = s.PC := by
  rw [branchForm_eq, hc] at h
  cases h
  rfl

theorem exec_PC_of_not_taken {i : Instr} {s t : State} (h : exec i s = .next t) (hb : i.mnemonic.isBranch = true)
    (hn : branchTaken i.mnemonic s.P = false) : t.PC = s.PC := by
  rw [exec_eq_execOn, execOn] at h
  cases hk : i.mnemonic <;> rw [hk] at h hb hn
  case BCC | BCS | BEQ | BNE | BMI | BPL | BVC | BVS =>
    exact branchForm_PC_of_not_taken h (by simpa [branchTaken] using hn)
  all_goals exact absurd hb (by decide)

theorem mem_pcWriters {k : Mnemonic} :
    k ∈ pcWriters ↔ k ∈ ([.JMP, .JSR, .RTS, .RTI, .BRK] : List Mnemonic) ∨ k.isBranch = true := by
  simp [pcWriters, Mnemonic.isBranch, or_assoc]

/-- Settles O54: a branch that is not taken leaves `PC`, and no other instruction of the statement is a writer of it. -/
theorem onlyControlTransfersWriteThePC : Obligations.OnlyControlTransfersWriteThePC := by
  intro i s t h hk hn
  by_cases hb : i.mnemonic.isBranch = true
  · exact exec_PC_of_not_taken h hb hn
  · exact (Frame.exec h).PC fun hw => (mem_pcWriters.mp hw).elim hk hb

/-- An instruction without an operand leaves the flags its effect leaves. -/
theorem exec_P_of_implied {i : Instr} {s t : State} {f : State → State} (h : exec i s = .next t)
    (hi : execOn i s = impliedForm i.opcode f s) : t.P = (f s).P := by
  rw [exec_eq_execOn, hi] at h
  cases h
  rfl

/-- BRK and the flag instructions leave their constant in their flag. -/
theorem exec_flag_constants {i : Instr} {s t : State} (h : exec i s = .next t) :
    (i.mnemonic = .BRK ∨ i.mnemonic = .SEI → t.P.I = true) ∧ (i.mnemonic = .CLI → t.P.I = false) ∧
      (i.mnemonic = .SED → t.P.D = true) ∧ (i.mnemonic = .CLD → t.P.D = false) ∧
      (i.mnemonic = .SEC → t.P.C = true) ∧ (i.mnemonic = .CLC → t.P.C = false) ∧
      (i.mnemonic = .CLV → t.P.V = false) := by
  refine ⟨?_, fun hk => ?_, fun hk => ?_, fun hk => ?_, fun hk => ?_, fun hk => ?_, fun hk => ?_⟩
  · rintro (hk | hk)
    · rw [exec_P_of_implied (f := breakTrap) h (by rw [execOn, hk]), breakTrap_eq, State.On.takeTrap_eq]
    · rw [exec_P_of_implied (f := setI) h (by rw [execOn, hk]), setI_eq]
  · rw [exec_P_of_implied (f := clearI) h (by rw [execOn, hk]), clearI_eq]
  · rw [exec_P_of_implied (f := setD) h (by rw [execOn, hk]), setD_eq]
  · rw [exec_P_of_implied (f := clearD) h (by rw [execOn, hk]), clearD_eq]
  · rw [exec_P_of_implied (f := setC) h (by rw [execOn, hk]), setC_eq]
  · rw [exec_P_of_implied (f := clearC) h (by rw [execOn, hk]), clearC_eq]
  · rw [exec_P_of_implied (f := clearV) h (by rw [execOn, hk]), clearV_eq]

/-- Settles O55: the frame of an instruction, flag by flag, and the constants of the flag instructions. -/
theorem flagsChangeOnlyWhereTheTableSays : Obligations.FlagsChangeOnlyWhereTheTableSays := by
  intro i s t h
  have hP := (Frame.exec h).P
  exact ⟨fun hk => ⟨hP.Z hk, hP.N hk⟩, hP.C, hP.V, hP.I, hP.D, hP.B, exec_flag_constants h⟩

theorem exec_halted_of_jam {i : Instr} {s t : State} (h : exec i s = .next t) (hk : i.mnemonic = .JAM) :
    t.halted = true := by
  rw [exec_eq_execOn, execOn, hk] at h
  cases h
  rfl

/-- Settles O56: the frame of an instruction, register by register. -/
theorem registersChangeOnlyByTheirWriters : Obligations.RegistersChangeOnlyByTheirWriters := by
  intro i s t h
  have hf := Frame.exec h
  exact ⟨hf.A, hf.X, hf.Y, hf.S, hf.halted, exec_halted_of_jam h⟩

end Sys2Proof.Machine

/-! Proofs about memory (spec/20_memory.md): the invariant every step keeps, the 16-bit reads, the stack page, and the
bytes an instruction can change. -/

namespace Sys2Proof.Machine

open Sys2Proof Sys2Proof.Claims

/-! ### The invariant of a step -/

/-- The canonical form of memory looks at the bus state alone, and a write keeps it. -/
theorem keptByCalls_wf : KeptByCalls fun s : State => s.mem.wf where
  read _ _ h := h
  write a v _ h := State.On.busWrite_wf a v h
  registers _ hm h := by rwa [hm]

theorem exec_cycles_of_jam {i : Instr} {s t : State} (h : exec i s = .next t) (hk : i.mnemonic = .JAM) :
    t.cycles = none := by
  rw [exec_eq_execOn, execOn, hk] at h
  cases h
  rfl

/-- Only a JAM halts a running core (R22), and it returns no cycle count (R211). -/
theorem exec_cycles_of_halted {i : Instr} {s t : State} (h : exec i s = .next t) (hs : s.halted = false)
    (ht : t.halted = true) : t.cycles = none := by
  by_cases hk : i.mnemonic = .JAM
  · exact exec_cycles_of_jam h hk
  · rw [(Frame.exec h).halted hk, hs] at ht
    cases ht

/-- Settles O9: memory stays canonical since every bus call keeps it so, and the step that halts is that of a JAM. -/
theorem stepKeepsTheInvariant : Obligations.StepKeepsTheInvariant := by
  rintro s t ⟨hwf, -⟩ hstep
  rcases step_cases s with ⟨-, hfault⟩ | ⟨hrun, hexec⟩
  · rw [hfault] at hstep
    cases hstep
  · rw [hexec] at hstep
    have hfetched : s.fetched.halted = false := by rw [State.On.fetched_eq, hrun]
    have hmem : t.mem.wf := keptByCalls_wf.execOn (keptByCalls_wf.fetch hwf) (exec_eq_execOn _ _ ▸ hstep)
    exact ⟨hmem, exec_cycles_of_halted hstep hfetched⟩

/-! ### Addresses and words in numbers -/

theorem word16_eq_ofNat (h l : Byte) : word16 h l = BitVec.ofNat 16 (h.toNat * 256 + l.toNat) := by
  rw [← word16_toNat, BitVec.ofNat_toNat, BitVec.setWidth_eq]

theorem zext16_eq_ofNat (b : Byte) : zext16 b = BitVec.ofNat 16 b.toNat := by
  rw [← zext16_toNat, BitVec.ofNat_toNat, BitVec.setWidth_eq]

theorem stackAddr_eq_ofNat (p : Byte) : stackAddr p = BitVec.ofNat 16 (256 + p.toNat) := by
  rw [← stackAddr_toNat, BitVec.ofNat_toNat, BitVec.setWidth_eq]

/-! ### The 16-bit reads (R37) -/

/-- The value and the state after the two reads, low byte first. -/
theorem State.On.readPair_eq (la ha : Addr) (s : State) :
    s.readPair la ha =
      (BitVec.ofNat 16 ((s.mem.read ha).toNat * 256 + (s.mem.read la).toNat),
        { s with bus := s.bus ++ [.read la (s.mem.read la), .read ha (s.mem.read ha)] }) := by
  rw [← word16_eq_ofNat, ← State.On.readPair_fst, ← State.On.readPair_snd]

/-- Settles O16: each read is the pair of reads, with the address of its high byte in numbers. -/
theorem sixteenBitReadsAreLittleEndianAndWrap : Obligations.SixteenBitReadsAreLittleEndianAndWrap := by
  intro a p s h1 l2 h2 h3
  have hnext : a + 1 = h1 := by
    rw [← BitVec.toNat_inj]
    simp [h1]
  have hzp : zext16 (p + 1) = h2 := by
    rw [zext16_eq_ofNat, BitVec.toNat_add]
    rfl
  have hpage : word16 (hi a) (lo a + 1) = h3 := by
    rw [word16_eq_ofNat, hi_toNat, BitVec.toNat_add, lo_toNat]
    rfl
  refine ⟨?_, ?_, ?_⟩
  · rw [← hnext]
    exact State.On.readPair_eq _ _ s
  · have hlow : zext16 p = l2 := zext16_eq_ofNat p
    rw [← hzp, ← hlow]
    exact State.On.readPair_eq _ _ s
  · rw [← hpage]
    exact State.On.readPair_eq _ _ s

/-! ### The stack (R38 to R40) -/

/-- Settles O14: the stack address in numbers, before the push and after the wrapped increment. -/
theorem pushAndPullUseTheStackPage : Obligations.PushAndPullUseTheStackPage := by
  intro v s
  refine ⟨?_, ?_⟩
  · rw [← stackAddr_eq_ofNat]
    exact State.On.push_eq v s
  · have htop : (s.S.toNat + 1) % 256 = (s.S + 1).toNat := (BitVec.toNat_add s.S 1).symm
    rw [htop, ← stackAddr_eq_ofNat]
    exact Prod.ext (State.On.pull_fst s) (State.On.pull_snd s)

/-- The two bytes a 16-bit push leaves: the later push is at another address than the first. -/
theorem read_push16 (w : Addr) (s : State) :
    (s.push16 w).mem.read (stackAddr s.S) = hi w ∧ (s.push16 w).mem.read (stackAddr (s.S - 1)) = lo w := by
  have hne : s.S ≠ s.S - 1 := by bv_omega
  rw [State.On.push16_eq]
  refine ⟨?_, Memory.read_write_same _ _ _⟩
  rw [Memory.read_write_other _ _ (mt (stackAddr_inj _ _).mp hne), Memory.read_write_same]

theorem pull_push (v : Byte) (s : State) : (s.push v).pull.1 = v ∧ (s.push v).pull.2.S = s.S := by
  simp [State.On.pull_fst, State.On.pull_snd, State.On.push_eq]

theorem pull16_push16 (w : Addr) (s : State) : (s.push16 w).pull16.1 = w ∧ (s.push16 w).pull16.2.S = s.S := by
  obtain ⟨hhi, hlo⟩ := read_push16 w s
  have hS : (s.push16 w).S + 1 = s.S - 1 := by rw [State.On.push16_eq, BitVec.sub_add_cancel]
  rw [State.On.pull16_fst, State.On.pull16_snd, hS, BitVec.sub_add_cancel, hhi, hlo, word16_hi_lo]
  exact ⟨rfl, rfl⟩

/-- Settles O15: `S` comes back to the pushed bytes modulo 256, and reads there give them. -/
theorem pullUndoesPush : Obligations.PullUndoesPush := by
  intro v w s
  obtain ⟨hv, hS⟩ := pull_push v s
  obtain ⟨hw, hS16⟩ := pull16_push16 w s
  exact ⟨hv, hS, hw, hS16, read_push16 w s⟩

/-! ### What each form stores -/

section Forms

variable {op : Byte} {o : Operand} {s t : State}

theorem readForm_mem {f : Byte → State → State} (ht : readForm op o f s = .next t)
    (hf : ∀ m u, (f m u).mem = u.mem) : t.mem = s.mem := by
  rw [readForm_eq] at ht
  cases ht
  exact hf _ _

/-- A store changes no byte but the one its operand names. -/
theorem storeForm_read {v : State → Byte} {a : Addr} (ht : storeForm op o v s = .next t)
    (ha : (resolve o s).1.operand ≠ .address a) : t.mem.read a = s.mem.read a := by
  rw [storeForm_eq] at ht
  cases ht
  exact writeOperand_read _ _ ha

/-- A read-modify-write changes no byte but the one its operand names. -/
theorem rmwForm_read {f : Byte → Status → Byte × Status} {g : Byte → State → State} {a : Addr}
    (ht : rmwForm op o f g s = .next t) (hg : ∀ m u, (g m u).mem = u.mem)
    (ha : (resolve o s).1.operand ≠ .address a) : t.mem.read a = s.mem.read a := by
  rw [rmwForm_eq] at ht
  cases ht
  exact (congrArg (Memory.read · a) (hg _ _)).trans (writeOperand_read _ _ ha)

theorem impliedForm_mem {f : State → State} (ht : impliedForm op f s = .next t) : t.mem = (f s).mem := by
  cases ht
  rfl

theorem impliedForm_keeps_mem {f : State → State} (ht : impliedForm op f s = .next t) (hf : (f s).mem = s.mem) :
    t.mem = s.mem :=
  (impliedForm_mem ht).trans hf

theorem jumpForm_mem {f : Addr → State → State} (ht : jumpForm op o f s = .next t) :
    ∃ l, t.mem = (f (effectiveAddress o s) { s with bus := l }).mem := by
  rw [jumpForm_eq] at ht
  cases ht
  exact ⟨_, rfl⟩

theorem branchForm_mem {d : Byte} {c : Status → Bool} (ht : branchForm op d c s = .next t) : t.mem = s.mem := by
  rw [branchForm_eq] at ht
  cases ht
  rfl

theorem haltForm_mem (ht : haltForm s = .next t) : t.mem = s.mem := by
  cases ht
  rfl

end Forms

/-! ### Which bytes an instruction can change -/

/-- The addresses an instruction `k` pushes at from stack pointer `sp` (R38, R40). -/
def pushedAt (k : Mnemonic) (sp : Byte) : List Addr :=
  match k with
  | .PHA | .PHP => [stackAddr sp]
  | .JSR => [stackAddr sp, stackAddr (sp - 1)]
  | .BRK => [stackAddr sp, stackAddr (sp - 1), stackAddr (sp - 2)]
  | _ => []

theorem pushedAt_of_not_pusher {k : Mnemonic} (h : k ∉ pushers) (sp : Byte) : pushedAt k sp = [] := by
  cases k
  case PHA | PHP | JSR | BRK => exact absurd (by decide) h
  all_goals rfl

theorem mem_pushedAt_of_push {k : Mnemonic} (hk : k = .PHA ∨ k = .PHP) {sp : Byte} {a : Addr} :
    a ∈ pushedAt k sp ↔ a = stackAddr sp := by
  rcases hk with rfl | rfl <;> exact List.mem_singleton

theorem mem_pushedAt_jsr {sp : Byte} {a : Addr} :
    a ∈ pushedAt .JSR sp ↔ a = stackAddr sp ∨ a = stackAddr (sp - 1) := List.mem_pair

theorem mem_pushedAt_brk {sp : Byte} {a : Addr} :
    a ∈ pushedAt .BRK sp ↔ a = stackAddr sp ∨ a = stackAddr (sp - 1) ∨ a = stackAddr (sp - 2) := by
  simp only [pushedAt, List.mem_cons, List.not_mem_nil, or_false]

/-- The three addresses of BRK are the most. -/
theorem pushedAt_subset (k : Mnemonic) (sp : Byte) : pushedAt k sp ⊆ pushedAt .BRK sp := by
  by_cases h : k ∈ pushers
  · simp only [pushers, List.mem_cons, List.not_mem_nil, or_false] at h
    rcases h with rfl | rfl | rfl | rfl <;> simp [pushedAt]
  · rw [pushedAt_of_not_pusher h]
    exact List.nil_subset _

theorem push_read (v : Byte) {s : State} {a : Addr} (ha : a ≠ stackAddr s.S) : (s.push v).mem.read a = s.mem.read a :=
  Memory.read_write_other _ v ha

theorem push16_read (w : Addr) {s : State} {a : Addr} (h0 : a ≠ stackAddr s.S) (h1 : a ≠ stackAddr (s.S - 1)) :
    (s.push16 w).mem.read a = s.mem.read a :=
  (push_read _ h1).trans (push_read _ h0)

theorem takeTrap_read (ret : Addr) {s : State} {a : Addr} (h0 : a ≠ stackAddr s.S) (h1 : a ≠ stackAddr (s.S - 1))
    (h2 : a ≠ stackAddr (s.S - 2)) : (s.takeTrap ret).mem.read a = s.mem.read a := by
  have hS : (s.push16 ret).S = s.S - 2 := by
    rw [State.On.push16_eq]
    bv_omega
  have hmem : (s.takeTrap ret).mem = ((s.push16 ret).push (s.P.pack ||| 0x10)).mem := by
    rw [State.On.takeTrap_eq, State.On.push16_eq, State.On.push_eq]
  rw [hmem, push_read _ (hS ▸ h2), push16_read ret h0 h1]

theorem callTo_mem (target : Addr) (s : State) : (callTo target s).mem = (s.push16 (s.PC - 1)).mem := rfl

/-- An instruction that answers a next state keeps a byte it neither pushes nor writes at its operand. -/
theorem exec_read_of_not_stored {i : Instr} {s t : State} {a : Addr} (h : exec i s = .next t)
    (hea : i.mnemonic ∈ eaWriters → (resolve i.operand s).1.operand ≠ .address a)
    (hpush : a ∉ pushedAt i.mnemonic s.S) : t.mem.read a = s.mem.read a := by
  rw [exec_eq_execOn, execOn] at h
  cases hk : i.mnemonic <;> rw [hk] at h hea hpush <;> dsimp only at h
  -- stores and read-modify-write
  case STA | STX | STY | SAX => exact storeForm_read h (hea (by decide))
  case ASL | LSR | ROL | ROR | INC | DEC | DCP | ISC | SLO | RLA | SRE | RRA =>
    exact rmwForm_read h (fun _ _ => rfl) (hea (by decide))
  -- pushes
  case PHA | PHP =>
    rw [impliedForm_mem h]
    exact push_read _ (mt (mem_pushedAt_of_push (by decide)).mpr hpush)
  case JSR =>
    obtain ⟨l, hl⟩ := jumpForm_mem h
    obtain ⟨h0, h1⟩ := not_or.mp (mt mem_pushedAt_jsr.mpr hpush)
    rw [hl, callTo_mem]
    exact push16_read _ h0 h1
  case BRK =>
    simp only [mem_pushedAt_brk, not_or] at hpush
    obtain ⟨h0, h1, h2⟩ := hpush
    rw [impliedForm_mem h]
    exact takeTrap_read _ h0 h1 h2
  -- control flow and JAM
  case JMP =>
    obtain ⟨l, hl⟩ := jumpForm_mem h
    rw [show t.mem = s.mem from hl]
  case BCC | BCS | BEQ | BNE | BMI | BPL | BVC | BVS => rw [branchForm_mem h]
  case JAM => rw [haltForm_mem h]
  case ANE | LXA | SHA | SHX | SHY | TAS => cases h
  -- registers and flags only
  case RTS => rw [impliedForm_keeps_mem h (by rw [returnFromCall_eq])]
  case RTI => rw [impliedForm_keeps_mem h (by rw [State.On.returnFromTrap_eq])]
  case PLA | PLP | TAX | TAY | TXA | TYA | TSX | TXS | INX | INY | DEX | DEY | CLC | SEC | CLI | SEI | CLD
      | SED | CLV =>
    rw [impliedForm_keeps_mem h rfl]
  all_goals rw [readForm_mem h fun _ _ => rfl]

/-- No row that pushes has the Accumulator mode. -/
theorem not_pusher_of_accumulator {i : Instr} (h : i.operand = .accumulator) : i.mnemonic ∉ pushers := by
  have hrows : ∀ op : Byte, (lookup op).mode = .accumulator → (lookup op).mnemonic ∉ pushers := by decide +kernel
  have hrow := hrows i.opcode
  rw [lookup_mnemonic, lookup_mode] at hrow
  exact hrow (h ▸ rfl)

theorem not_pusher_of_eaWriter : ∀ k ∈ eaWriters, k ∉ pushers := by decide

/-- Settles O57: no clause's address is pushed at, nor named by the operand of an instruction that writes there. -/
theorem memoryChangesOnlyWhereStored : Obligations.MemoryChangesOnlyWhereStored := by
  intro i s t a h
  have hnone : i.mnemonic ∉ pushers → a ∉ pushedAt i.mnemonic s.S := fun hk => by
    simp [pushedAt_of_not_pusher hk]
  have hpushed : i.mnemonic ∈ pushers → a ∉ pushedAt i.mnemonic s.S → t.mem.read a = s.mem.read a := fun hk =>
    exec_read_of_not_stored h fun hw => absurd hk (not_pusher_of_eaWriter _ hw)
  refine ⟨fun hw hk => ?_, fun ho => ?_, fun hw ha => ?_, fun hk h0 h1 h2 => ?_, fun hk h0 => ?_, fun hk h0 h1 => ?_⟩
  · exact exec_read_of_not_stored h (fun hw' => absurd hw' hw) (hnone hk)
  · refine exec_read_of_not_stored h (fun _ => ?_) (hnone (not_pusher_of_accumulator ho))
    rw [ho]
    exact EffectiveOperand.noConfusion
  · refine exec_read_of_not_stored h (fun _ he => ha ?_) (hnone (not_pusher_of_eaWriter _ hw))
    rw [ea, effectiveAddress, he, EffectiveOperand.ea]
  · exact hpushed hk fun hin => (mem_pushedAt_brk.mp (pushedAt_subset _ _ hin)).elim h0 (Or.rec h1 h2)
  · exact hpushed (by rcases hk with hk | hk <;> exact hk ▸ by decide) (mt (mem_pushedAt_of_push hk).mp h0)
  · exact hpushed (hk ▸ by decide) fun hin => (mem_pushedAt_jsr.mp (hk ▸ hin)).elim h0 h1

end Sys2Proof.Machine

/-! Proofs about encoding (spec/30_encoding.md): the table of rows, the decoder against the encoder, the operand of each
addressing mode in numbers, and the cycle count and completion of every instruction. -/

namespace Sys2Proof

/-! ### The rows of the table (R52, R53, R69, R70) -/

theorem lookup_opcode (op : Byte) : (lookup op).opcode = op := by
  revert op
  decide +kernel

theorem lookup_wellFormed (op : Byte) : (lookup op).wellFormed = true := by
  revert op
  decide +kernel

/-- Settles O3: the 256 rows, evaluated. -/
theorem tableIsTotalAndWellFormed : Obligations.TableIsTotalAndWellFormed :=
  ⟨fun op => ⟨lookup_opcode op, lookup_wellFormed op⟩, by decide +kernel, by decide +kernel, by decide +kernel,
    by decide +kernel⟩

/-- The length a row states is that of its mode (R53). -/
theorem Descriptor.length_eq_of_wellFormed {d : Descriptor} (h : d.wellFormed = true) : d.length = d.mode.length := by
  simp only [Descriptor.wellFormed, Bool.and_eq_true, and_assoc] at h
  obtain ⟨hlength, -⟩ := h
  unfold Descriptor.lengthOk at hlength
  cases hm : d.mode <;> rw [hm] at hlength <;> exact eq_of_beq hlength

theorem Operand.mode_length (o : Operand) : o.mode.length = o.bytes.length + 1 := by cases o <;> rfl

/-- The row of an instruction asks for the operand bytes that the instruction has. -/
theorem lookup_length (i : Instr) : (lookup i.opcode).length = i.operand.bytes.length + 1 := by
  rw [Descriptor.length_eq_of_wellFormed (lookup_wellFormed _), lookup_mode, Operand.mode_length]

/-! ### The decoder and the encoder (R50, R51) -/

/-- The word `{b2, b1}` that the operand bytes make, where a byte that is not there counts as 0. -/
def Operand.word : Operand → Addr
  | .implied | .accumulator => word16 0 0
  | .immediate b | .zeroPage b | .zeroPageX b | .zeroPageY b | .relative b | .indirectX b | .indirectY b => word16 0 b
  | .absolute w | .absoluteX w | .absoluteY w | .indirect w => w

theorem Operand.word16_bytes (o : Operand) : word16 (o.bytes.getD 1 0) (o.bytes.getD 0 0) = o.word := by
  cases o with
  | absolute w | absoluteX w | absoluteY w | indirect w => exact word16_hi_lo w
  | _ => rfl

/-- An instruction is the one its row gives for its own operand bytes. -/
theorem instrOf_self (i : Instr) : instrOf i.opcode (i.operand.bytes.getD 0 0) (i.operand.bytes.getD 1 0) = i := by
  rw [instrOf, Operand.word16_bytes]
  cases i <;> dsimp only [Instr.opcode] <;> rfl

/-- A row asks for no operand byte, for one, or for two (R50). -/
theorem operandBytes_cases {op : Byte} {bytes : List Byte} (hl : (lookup op).length = bytes.length + 1) :
    bytes = [] ∨ (∃ b1, bytes = [b1]) ∨ ∃ b1 b2, bytes = [b1, b2] := by
  rcases Machine.lookup_length_cases op with h | h | h <;> rw [h] at hl
  · exact .inl (List.length_eq_zero_iff.mp (by omega))
  · exact .inr (.inl (List.length_eq_one_iff.mp (by omega)))
  · exact .inr (.inr (List.length_eq_two.mp (by omega)))

/-- A byte list decodes to an instruction and a rest exactly when it is the opcode byte, as many operand bytes as the row
asks for, and the rest. -/
theorem decode_cons_eq_ok_iff {op : Byte} {l rest : List Byte} {i : Instr} :
    decode (op :: l) = .ok (i, rest) ↔
      ∃ bytes, (lookup op).length = bytes.length + 1 ∧ l = bytes ++ rest ∧
        i = instrOf op (bytes.getD 0 0) (bytes.getD 1 0) := by
  constructor
  · intro h
    rcases Machine.lookup_length_cases op with hl | hl | hl
    · simp only [decode, hl, Except.ok.injEq, Prod.mk.injEq] at h
      exact ⟨[], hl, h.2, h.1.symm⟩
    · match l with
      | [] => simp [decode, hl] at h
      | b1 :: l =>
        simp only [decode, hl, Except.ok.injEq, Prod.mk.injEq] at h
        exact ⟨[b1], hl, congrArg (b1 :: ·) h.2, h.1.symm⟩
    · match l with
      | [] | [_] => simp [decode, hl] at h
      | b1 :: b2 :: l =>
        simp only [decode, hl, Except.ok.injEq, Prod.mk.injEq] at h
        exact ⟨[b1, b2], hl, congrArg (b1 :: b2 :: ·) h.2, h.1.symm⟩
  · rintro ⟨bytes, hl, rfl, rfl⟩
    rcases operandBytes_cases hl with rfl | ⟨b1, rfl⟩ | ⟨b1, b2, rfl⟩ <;> simp [decode, hl]

/-- Settles O1: the row of an instruction asks for its own operand bytes and gives it for them. -/
theorem decodeInvertsEncode : Obligations.DecodeInvertsEncode := fun i _ =>
  decode_cons_eq_ok_iff.mpr ⟨i.operand.bytes, lookup_length i, rfl, (instrOf_self i).symm⟩

/-- An instruction is its bytes. -/
theorem encode_injective : Function.Injective encode := fun i j h => by
  have hi := decodeInvertsEncode i []
  rw [h, decodeInvertsEncode j []] at hi
  cases hi
  rfl

/-- The decoder keeps every operand byte its row asks for. -/
theorem encode_instrOf {op : Byte} {bytes : List Byte} (hl : (lookup op).length = bytes.length + 1) :
    encode (instrOf op (bytes.getD 0 0) (bytes.getD 1 0)) = op :: bytes := by
  rw [encode, instrOf_opcode, instrOf_bytes, hl]
  rcases operandBytes_cases hl with rfl | ⟨b1, rfl⟩ | ⟨b1, b2, rfl⟩ <;> rfl

/-- A list decodes exactly when the operand bytes of its row are there. -/
theorem decode_cons_isOk_iff (op : Byte) (l : List Byte) :
    (∃ i rest, decode (op :: l) = .ok (i, rest)) ↔ (lookup op).length ≤ l.length + 1 := by
  constructor
  · rintro ⟨i, rest, h⟩
    obtain ⟨bytes, hl, rfl, -⟩ := decode_cons_eq_ok_iff.mp h
    rw [hl, List.length_append]
    omega
  · intro h
    have hrow := Machine.lookup_length_cases op
    refine ⟨_, l.drop ((lookup op).length - 1),
      decode_cons_eq_ok_iff.mpr ⟨l.take ((lookup op).length - 1), ?_, (List.take_append_drop _ _).symm, rfl⟩⟩
    rw [List.length_take]
    omega

/-- Settles O2: what decodes is an opcode byte, the operand bytes of its row and a rest, and the instruction keeps them. -/
theorem encodeInvertsDecode : Obligations.EncodeInvertsDecode := by
  refine ⟨fun bytes rest i h => ?_, decode_cons_isOk_iff, fun _ _ h => by cases h⟩
  cases bytes with
  | nil => cases h
  | cons op l =>
    obtain ⟨operand, hl, rfl, rfl⟩ := decode_cons_eq_ok_iff.mp h
    rw [encode_instrOf hl, List.cons_append]

end Sys2Proof

namespace Sys2Proof.Machine

open Sys2Proof Sys2Proof.Claims

/-! ### The placed word (log 6) -/

/-- The three loaded bytes stand at three different addresses. -/
theorem Memory.read_load_three (m : Memory) (a : Addr) (b0 b1 b2 : Byte) :
    (m.load a [b0, b1, b2]).read a = b0 ∧ (m.load a [b0, b1, b2]).read (a + 1) = b1 ∧
      (m.load a [b0, b1, b2]).read (a + 2) = b2 := by
  have hload : m.load a [b0, b1, b2] = ((m.write a b0).write (a + 1) b1).write (a + 1 + 1) b2 := rfl
  have h01 : a ≠ a + 1 := by bv_omega
  have h02 : a ≠ a + 1 + 1 := by bv_omega
  have h12 : a + 1 ≠ a + 1 + 1 := by bv_omega
  have h2 : a + 2 = a + 1 + 1 := by bv_omega
  rw [hload, h2]
  refine ⟨?_, ?_, read_write_same _ _ _⟩
  · rw [read_write_other _ _ h02, read_write_other _ _ h01, read_write_same]
  · rw [read_write_other _ _ h12, read_write_same]

/-- The instruction decoded from three bytes is the one that reads all three. -/
theorem instrOf_of_decode {op b1 b2 : Byte} {i : Instr} {rest : List Byte} (h : decode [op, b1, b2] = .ok (i, rest)) :
    instrOf op b1 b2 = i := by
  obtain ⟨hop, hbytes⟩ := bytes_of_decode h
  exact encode_injective (by rw [encode, encode, instrOf_opcode, hop, hbytes])

theorem instrAt_of_load {s : State} {m : Memory} {b0 b1 b2 : Byte} (h : s.mem = m.load s.PC [b0, b1, b2]) :
    instrAt s = instrOf b0 b1 b2 := by
  obtain ⟨h0, h1, h2⟩ := Memory.read_load_three m s.PC b0 b1 b2
  rw [instrAt, h, h0, h1, h2]

theorem instrAt_withFetchWord {nbits w : Nat} {i : Instr} (s : State) (h : decodeTableWord nbits w = some i) :
    instrAt (s.withFetchWord nbits w) = i := by
  rw [instrAt_of_load (s := s.withFetchWord nbits w) (m := s.mem) rfl]
  dsimp only [decodeTableWord] at h
  split at h
  case h_1 hdec =>
    cases h
    exact instrOf_of_decode hdec
  case h_2 => cases h

/-- Settles O5: the three bytes placed at `PC` are the ones the word decodes from. -/
theorem placedWordIsFetched : Obligations.PlacedWordIsFetched := by
  intro s nbits w i h
  have hi := instrAt_withFetchWord s h
  have hrun : (s.withFetchWord nbits w).halted = false := rfl
  exact ⟨hrun, hi, hi ▸ step_running hrun⟩

/-! ### The operand of each mode (R55 to R66) -/

/-- A displacement is added as the signed number it is (R66). -/
theorem add_sext16 (pc : Addr) (d : Byte) : pc + sext16 d = BitVec.ofInt 16 ((pc.toNat : Int) + d.toInt) := by
  rw [BitVec.ofInt_add, ← sext16_toInt, BitVec.ofInt_toInt, BitVec.ofInt_natCast, BitVec.ofNat_toNat, BitVec.setWidth_eq]

/-- Settles O17: the branch target and its page test in numbers; the other operands are what the instruction bytes say. -/
theorem immediateImpliedAndRelativeOperands : Obligations.ImmediateImpliedAndRelativeOperands := by
  intro b s
  refine ⟨rfl, rfl, rfl, ?_⟩
  rw [branchTarget, ← add_sext16, ← differentPage_eq]
  rfl

theorem zext16_add (b i : Byte) : zext16 (b + i) = BitVec.ofNat 16 ((b.toNat + i.toNat) % 256) := by
  rw [zext16_eq_ofNat, BitVec.toNat_add]

theorem add_zext16 (w : Addr) (i : Byte) : w + zext16 i = BitVec.ofNat 16 ((w.toNat + i.toNat) % 65536) := by
  apply BitVec.eq_of_toNat_eq
  simp [zext16_toNat]

/-- An indexed address and its page test in numbers (R60). -/
theorem Resolved.indexed_zext16 (w : Addr) (i : Byte) :
    Resolved.indexed w (zext16 i) =
      ⟨.address (BitVec.ofNat 16 ((w.toNat + i.toNat) % 65536)),
        decide ((BitVec.ofNat 16 ((w.toNat + i.toNat) % 65536)).toNat / 256 ≠ w.toNat / 256)⟩ := by
  rw [Resolved.indexed, differentPage_eq, add_zext16]

/-- Settles O18: each sum in numbers, in a byte for page zero and in a word for an absolute address. -/
theorem zeroPageAndAbsoluteAddresses : Obligations.ZeroPageAndAbsoluteAddresses := by
  intro b w s zx zy ax ay
  refine ⟨?_, ?_, ?_, rfl, ?_, ?_⟩
  · rw [resolve, zext16_eq_ofNat, Resolved.at]
  · rw [resolve, zext16_add, Resolved.at]
  · rw [resolve, zext16_add, Resolved.at]
  · rw [resolve, Resolved.indexed_zext16]
  · rw [resolve, Resolved.indexed_zext16]

theorem pointerCalls_eq_pointerReads (o : Operand) (s : State) : pointerCalls o s = pointerReads o s := by cases o <;> rfl

/-- Resolving makes the pointer reads and changes nothing else (R44). -/
theorem resolve_snd_eq_pointerReads (o : Operand) (s : State) :
    (resolve o s).2 = { s with bus := s.bus ++ pointerReads o s } := by
  rw [resolve_snd, pointerCalls_eq_pointerReads]

/-- The high byte of a same-page read stands at the next offset of the page (R62). -/
theorem word16_hi_lo_add_one (w : Addr) :
    word16 (hi w) (lo w + 1) = BitVec.ofNat 16 (w.toNat / 256 * 256 + (w.toNat % 256 + 1) % 256) := by
  rw [word16_eq_ofNat, hi_toNat, BitVec.toNat_add, lo_toNat]
  rfl

theorem zext16_add_add_one (b i : Byte) : zext16 (b + i + 1) = BitVec.ofNat 16 ((b.toNat + i.toNat + 1) % 256) := by
  rw [zext16_add, BitVec.toNat_add]
  exact congrArg _ (Nat.mod_add_mod _ _ _)

/-- Settles O19: each pointer is a pair of reads, with the address of its high byte in numbers. -/
theorem pointerModesFollowTheirWraps : Obligations.PointerModesFollowTheirWraps := by
  intro b w s wl wh xl xh yl yh y
  have hindirect : (resolve (.indirect w) s).1 = .at (word16 wh wl) := by
    simp only [wh, ← word16_hi_lo_add_one]
    rfl
  have hindirectX : (resolve (.indirectX b) s).1 = .at (word16 xh xl) := by
    simp only [xh, xl, ← zext16_add_add_one, ← zext16_add]
    rfl
  have hindirectY : (resolve (.indirectY b) s).1 = .indexed (word16 yh yl) (zext16 s.Y) := by
    have hhigh : zext16 (b + 1) = BitVec.ofNat 16 ((b.toNat + 1) % 256) := zext16_add b 1
    simp only [yh, yl, ← hhigh, ← zext16_eq_ofNat]
    rfl
  have hpage : (yh.toNat * 256 + yl.toNat) / 256 = yh.toNat := by
    have hl := yl.isLt
    omega
  refine ⟨Prod.ext ?_ (resolve_snd_eq_pointerReads _ s), Prod.ext ?_ (resolve_snd_eq_pointerReads _ s),
    Prod.ext ?_ (resolve_snd_eq_pointerReads _ s)⟩
  · rw [hindirect, word16_eq_ofNat, Resolved.at]
  · rw [hindirectX, word16_eq_ofNat, Resolved.at]
  · rw [hindirectY, Resolved.indexed_zext16, word16_toNat, hpage]

/-! ### Cycles and completion (R54, R68, R70) -/

/-- The mnemonics that have a row with the flag `+p` (R69). -/
def pagePenaltyMnemonics : List Mnemonic :=
  [.ORA, .AND, .EOR, .ADC, .SBC, .CMP, .LDA, .LDX, .LDY, .LAX, .LAS, .NOP]

theorem descriptor_pagePenalty {i : Instr} (h : i.mnemonic ∉ pagePenaltyMnemonics) :
    i.descriptor.pagePenalty = false := by
  have hrows : ∀ op : Byte, (lookup op).mnemonic ∉ pagePenaltyMnemonics → (lookup op).pagePenalty = false := by
    decide +kernel
  exact hrows i.opcode (lookup_mnemonic i ▸ h)

theorem penaltyOf_of_not_branch {i : Instr} {s : State} (h : i.mnemonic.isBranch = false) :
    penaltyOf i s = pagePenalty i.opcode (resolve i.operand s).1.pageCrossed := by
  simp [penaltyOf, h, pagePenalty, Instr.descriptor]

theorem penaltyOf_eq_zero {i : Instr} {s : State} (hb : i.mnemonic.isBranch = false)
    (hp : i.mnemonic ∉ pagePenaltyMnemonics) : penaltyOf i s = 0 := by
  simp [penaltyOf, hb, descriptor_pagePenalty hp]

theorem penaltyOf_of_branch {i : Instr} {s : State} (h : i.mnemonic.isBranch = true) :
    penaltyOf i s = branchPenalty (branchTaken i.mnemonic s.P) (resolve i.operand s).1.pageCrossed := by
  simp [penaltyOf, h, branchPenalty]

/-- A branch has a Relative operand (R66). -/
theorem operand_of_branch {i : Instr} (h : i.mnemonic.isBranch = true) :
    i.operand = .relative (displacement i.operand) := by
  have hrows : ∀ op : Byte, (lookup op).mnemonic.isBranch = true → (lookup op).mode = .relative := by decide +kernel
  have hmode := hrows i.opcode (lookup_mnemonic i ▸ h)
  rw [lookup_mode] at hmode
  cases ho : i.operand with
  | relative d => rfl
  | _ => rw [ho] at hmode; cases hmode

/-- A branch retires with the penalty of its condition (R148). -/
theorem branchForm_eq_retire {i : Instr} {s : State} {c : Status → Bool} (hb : i.mnemonic.isBranch = true)
    (hc : c s.P = branchTaken i.mnemonic s.P) :
    ∃ u, branchForm i.opcode (displacement i.operand) c s = retire i.opcode (penaltyOf i s) u := by
  rw [penaltyOf_of_branch hb, ← hc, operand_of_branch hb]
  exact ⟨_, rfl⟩

/-- The mnemonics that are refused (R198 to R203). -/
def unstableMnemonics : List Mnemonic := [.ANE, .LXA, .SHA, .SHX, .SHY, .TAS]

theorem cls_of_unstable {i : Instr} (h : i.mnemonic ∈ unstableMnemonics) : i.descriptor.cls = .unimplemented := by
  have hrows : ∀ op : Byte, (lookup op).mnemonic ∈ unstableMnemonics → (lookup op).cls = .unimplemented := by
    decide +kernel
  exact hrows i.opcode (lookup_mnemonic i ▸ h)

/-- Every instruction but JAM and the unstable ones retires with its penalty (R54, R68). -/
theorem exec_eq_retire {i : Instr} (s : State) (hj : i.mnemonic ≠ .JAM) (hu : i.descriptor.cls ≠ .unimplemented) :
    ∃ u, exec i s = retire i.opcode (penaltyOf i s) u := by
  rw [exec_eq_execOn, execOn]
  cases hk : i.mnemonic
  case JAM => exact absurd hk hj
  case ANE | LXA | SHA | SHX | SHY | TAS => exact absurd (cls_of_unstable (hk ▸ by decide)) hu
  case BCC | BCS | BEQ | BNE | BMI | BPL | BVC | BVS =>
    exact branchForm_eq_retire (hk ▸ rfl) (by simp [branchTaken, hk, beq_eq_decide])
  -- without an operand, and so without a penalty
  case BRK | RTI | RTS | PHA | PHP | PLA | PLP | TAX | TAY | TXA | TYA | TSX | TXS | INX | INY | DEX | DEY | CLC | SEC
      | CLI | SEI | CLD | SED | CLV =>
    rw [penaltyOf_eq_zero (hk ▸ rfl) (hk ▸ by decide)]
    exact ⟨_, rfl⟩
  -- reads (NOP is one), stores, read-modify-write and jumps
  all_goals
    rw [penaltyOf_of_not_branch (hk ▸ rfl)]
    exact ⟨_, rfl⟩

/-- Settles O59: an instruction that is not refused retires, or it is a JAM and halts. -/
theorem onlyUnstableOpcodesDoNotComplete : Obligations.OnlyUnstableOpcodesDoNotComplete := by
  intro i s hu
  by_cases hj : i.mnemonic = .JAM
  · rw [exec_eq_execOn, execOn, hj]
    exact ⟨_, haltForm_eq s⟩
  · obtain ⟨u, hretire⟩ := exec_eq_retire s hj hu
    exact ⟨_, hretire.trans (retire_eq _ _ _)⟩

/-- The largest penalty an instruction of a row can have (R68, R148). -/
def maxPenalty (d : Descriptor) : Nat := if d.mnemonic.isBranch then 2 else if d.pagePenalty then 1 else 0

theorem branchPenalty_le : ∀ taken crossed, branchPenalty taken crossed ≤ 2 := by decide

theorem pagePenalty_le (op : Byte) (crossed : Bool) :
    pagePenalty op crossed ≤ if (lookup op).pagePenalty then 1 else 0 := by
  rw [pagePenalty]
  cases (lookup op).pagePenalty <;> cases crossed <;> decide

theorem penaltyOf_le (i : Instr) (s : State) : penaltyOf i s ≤ maxPenalty i.descriptor := by
  have hm : i.descriptor.mnemonic = i.mnemonic := lookup_mnemonic i
  rw [maxPenalty, hm]
  cases hb : i.mnemonic.isBranch with
  | true =>
    rw [penaltyOf_of_branch hb]
    exact branchPenalty_le _ _
  | false =>
    rw [penaltyOf_of_not_branch hb]
    exact pagePenalty_le _ _

/-- The base cost of a row leaves room for its penalty (R68). -/
theorem baseCycles_bounds {i : Instr} (hj : i.mnemonic ≠ .JAM) :
    2 ≤ i.descriptor.baseCycles ∧ i.descriptor.baseCycles + maxPenalty i.descriptor ≤ 8 := by
  have hrows : ∀ op : Byte, (lookup op).mnemonic ≠ .JAM →
      2 ≤ (lookup op).baseCycles ∧ (lookup op).baseCycles + maxPenalty (lookup op) ≤ 8 := by decide +kernel
  exact hrows i.opcode (lookup_mnemonic i ▸ hj)

theorem retire_cycles {i : Instr} {p : Nat} {u t : State} (h : retire i.opcode p u = .next t) :
    t.cycles = some (BitVec.ofNat 32 (i.descriptor.baseCycles + p)) := by
  cases h
  rfl

/-- Settles O58: an instruction that answers a next state retires with its penalty, and no sum leaves 2 to 8. -/
theorem cyclesAreBasePlusPenalty : Obligations.CyclesAreBasePlusPenalty := by
  intro i s t h hj
  have hcls : i.descriptor.cls ≠ .unimplemented := fun hu => by
    rw [exec_eq_execOn, execOn_unimplemented hu] at h
    cases h
  obtain ⟨u, hu⟩ := exec_eq_retire s hj hcls
  obtain ⟨hlow, hhigh⟩ := baseCycles_bounds hj
  have hle := penaltyOf_le i s
  have hn : (BitVec.ofNat 32 (i.descriptor.baseCycles + penaltyOf i s)).toNat =
      i.descriptor.baseCycles + penaltyOf i s :=
    Nat.mod_eq_of_lt (by omega)
  refine ⟨_, retire_cycles (hu ▸ h), hn, ?_, ?_⟩ <;> rw [hn] <;> omega

end Sys2Proof.Machine

/-! Proofs about loads, stores and transfers (spec/40_load_store_transfer.md), from the whole next state of an
instruction that reads its operand, stores a byte, or has no operand. -/

namespace Sys2Proof.Machine

open Sys2Proof Sys2Proof.Claims

/-! ### The model's operations in the words of the claims -/

/-- The Zero and Negative laws in numbers (R21). -/
theorem Status.setNZ_eq_nz (v : Byte) (p : Status) : p.setNZ v = nz p v := by
  have hN : v.getLsbD 7 = decide (128 ≤ v.toNat) :=
    (BitVec.msb_eq_getLsbD_last v).symm.trans (BitVec.msb_eq_decide v)
  rw [Status.setNZ, nz, beq_eq_decide, hN]

theorem operandValue_eq_operandByte (i : Instr) (s : State) :
    operandValue (resolve i.operand s).1.operand s = operandByte i s := by
  rw [operandByte]
  cases (resolve i.operand s).1.operand <;> rfl

theorem operandCalls_eq_dataReads (i : Instr) (s : State) :
    operandCalls (resolve i.operand s).1.operand s = dataReads i s := by
  rw [dataReads]
  cases (resolve i.operand s).1.operand <;> rfl

/-- Retiring with the page penalty sets the cycle count of the claims (R68). -/
theorem retire_pagePenalty_eq (i : Instr) (s t : State) :
    retire i.opcode (pagePenalty i.opcode (resolve i.operand s).1.pageCrossed) t =
      .next { t with cycles := cyclesOf i s } := rfl

/-! ### The whole next state, form by form -/

/-- An instruction of the read form leaves `t` in the registers and flags, if its effect on the operand byte does so
whatever calls are recorded. -/
theorem exec_eq_afterRead {i : Instr} {s t : State} (f : Byte → State → State)
    (h : execOn i s = readForm i.opcode i.operand f s)
    (hf : ∀ l, f (operandByte i s) { s with bus := l } = { t with bus := l }) :
    exec i s = .next (afterRead i s t) := by
  rw [exec_eq_execOn, h, readForm_eq, operandValue_eq_operandByte, pointerCalls_eq_pointerReads,
    operandCalls_eq_dataReads, hf, retire_pagePenalty_eq, afterRead]

/-- The modes that name no address (R55, R65, R67). -/
def addresslessModes : List Mode := [.implied, .accumulator, .immediate]

theorem resolve_operand_eq_address {o : Operand} (s : State) (h : o.mode ∉ addresslessModes) :
    (resolve o s).1.operand = .address (effectiveAddress o s) := by
  cases o with
  | implied | accumulator | immediate b => exact absurd (by simp [addresslessModes, Operand.mode]) h
  | _ => rfl

/-- The mnemonics that write a byte at their operand and read nothing there (R83 to R85, R184). -/
def storeMnemonics : List Mnemonic := [.STA, .STX, .STY, .SAX]

/-- Every row of a store has an address. -/
theorem mode_not_addressless_of_store {i : Instr} (h : i.mnemonic ∈ storeMnemonics) :
    i.operand.mode ∉ addresslessModes := by
  have hrows : ∀ op : Byte, (lookup op).mnemonic ∈ storeMnemonics → (lookup op).mode ∉ addresslessModes := by
    decide +kernel
  have hrow := hrows i.opcode
  rw [lookup_mnemonic, lookup_mode] at hrow
  exact hrow h

/-- A store writes one byte at its effective address, and reads nothing but the pointer (R83). -/
theorem exec_eq_afterStore {i : Instr} {s : State} (v : State → Byte)
    (h : execOn i s = storeForm i.opcode i.operand v s) (hk : i.mnemonic ∈ storeMnemonics) :
    exec i s = .next (afterStore i s (v s)) := by
  rw [exec_eq_execOn, h, storeForm_eq, resolve_operand_eq_address s (mode_not_addressless_of_store hk), writeOperand,
    State.On.busWrite_eq, pointerCalls_eq_pointerReads, retire_pagePenalty_eq, afterStore, ea]

/-- An instruction without an operand leaves what its effect leaves, at the base cost of its row (R68). -/
theorem exec_eq_of_implied {i : Instr} {s : State} (f : State → State) (h : execOn i s = impliedForm i.opcode f s) :
    exec i s = .next { f s with cycles := some (BitVec.ofNat 32 i.descriptor.baseCycles) } := by
  rw [exec_eq_execOn, h, impliedForm_eq, retire_eq, Nat.add_zero, Instr.descriptor]

/-! ### Loads (R80 to R82) -/

/-- Settles O24: the rows, evaluated, and the read form with each load's effect. -/
theorem loadsSetTheRegisterAndNZ : Obligations.LoadsSetTheRegisterAndNZ := by
  refine ⟨by decide +kernel, by decide +kernel, by decide +kernel, fun i s => ?_⟩
  refine ⟨fun hk => ?_, fun hk => ?_, fun hk => ?_⟩
  · exact exec_eq_afterRead loadA (by rw [execOn, hk]) fun _ => by rw [loadA_eq, Status.setNZ_eq_nz]
  · exact exec_eq_afterRead loadX (by rw [execOn, hk]) fun _ => by rw [loadX_eq, Status.setNZ_eq_nz]
  · exact exec_eq_afterRead loadY (by rw [execOn, hk]) fun _ => by rw [loadY_eq, Status.setNZ_eq_nz]

/-! ### Stores (R83 to R85) -/

/-- Settles O25: the rows, evaluated, and the store form with each store's register. -/
theorem storesWriteOneByte : Obligations.StoresWriteOneByte := by
  refine ⟨by decide +kernel, by decide +kernel, by decide +kernel, fun i s => ?_⟩
  refine ⟨fun hk => ?_, fun hk => ?_, fun hk => ?_⟩
  · exact exec_eq_afterStore State.On.A (by rw [execOn, hk]) (hk ▸ by decide)
  · exact exec_eq_afterStore State.On.X (by rw [execOn, hk]) (hk ▸ by decide)
  · exact exec_eq_afterStore State.On.Y (by rw [execOn, hk]) (hk ▸ by decide)

/-! ### Transfers (R86 to R91) -/

/-- Settles O26: the rows, evaluated, and each transfer's effect at the base cost of its row. -/
theorem transfersCopyARegister : Obligations.TransfersCopyARegister := by
  refine ⟨by decide +kernel, by decide +kernel, by decide +kernel, by decide +kernel, by decide +kernel,
    by decide +kernel, fun s => ?_⟩
  simp only [← Status.setNZ_eq_nz]
  exact ⟨exec_eq_of_implied transferAX rfl, exec_eq_of_implied transferAY rfl, exec_eq_of_implied transferXA rfl,
    exec_eq_of_implied transferYA rfl, exec_eq_of_implied transferSX rfl, exec_eq_of_implied transferXS rfl⟩

/-! ### Sample words -/

/-- Settles O4: each sample is the encoding of its instruction, and so decodes to it. -/
theorem specWordsDecode : Obligations.SpecWordsDecode :=
  ⟨decodeInvertsEncode (.ldaImm 0x85) [], decodeInvertsEncode (.staAbs 0x0200) [], decodeInvertsEncode .pha [],
    decodeInvertsEncode (.adcIzy 0x10) [], decodeInvertsEncode .aslAcc [], decodeInvertsEncode (.jsr 0x1234) [],
    decodeInvertsEncode (.bne 0xFD) [], decodeInvertsEncode .clc [], decodeInvertsEncode (.rraAbx 0x20FF) [],
    decodeInvertsEncode .jam02 []⟩

end Sys2Proof.Machine

/-! Proofs about the stack instructions (spec/41_stack.md), from the whole next state of an instruction without an
operand. -/

namespace Sys2Proof.Machine

open Sys2Proof Sys2Proof.Claims

/-! ### Pushes (R100, R101) -/

/-- Settles O27: the rows, evaluated, and each push at the stack address in numbers; the two bits are of R18's layout. -/
theorem stackPushesStoreAndDecrement : Obligations.StackPushesStoreAndDecrement := by
  refine ⟨by decide +kernel, by decide +kernel, ?_⟩
  intro s a
  have ha : stackAddr s.S = a := stackAddr_eq_ofNat s.S
  obtain ⟨-, -, -, -, hB, hU, -, -⟩ := s.P.pack_bits
  rw [← ha]
  exact ⟨exec_eq_of_implied pushA rfl, exec_eq_of_implied pushP rfl, hU, hB⟩

/-! ### Pulls (R102, R103) -/

/-- The address a pull reads at, after the wrapped increment (R39). -/
theorem stackAddr_add_one_eq_ofNat (p : Byte) : stackAddr (p + 1) = BitVec.ofNat 16 (256 + (p.toNat + 1) % 256) := by
  rw [stackAddr_eq_ofNat, BitVec.toNat_add]
  rfl

/-- Settles O28: the rows, evaluated, and each pull at the stack address in numbers; PLP unpacks by R19's layout. -/
theorem stackPullsLoadAndIncrement : Obligations.StackPullsLoadAndIncrement := by
  refine ⟨by decide +kernel, by decide +kernel, ?_⟩
  intro s a m
  have ha : stackAddr (s.S + 1) = a := stackAddr_add_one_eq_ofNat s.S
  have hm : s.mem.read (stackAddr (s.S + 1)) = m := by rw [ha]
  rw [← Status.setNZ_eq_nz, ← Status.unpack_eq, ← hm, ← ha]
  exact ⟨exec_eq_of_implied pullA rfl, exec_eq_of_implied pullP rfl⟩

/-! ### The round trip of the status register (R19, R103) -/

/-- Settles O29: the pull gives back the pushed byte and `S`, whatever `PC` is, and unpacking undoes packing. -/
theorem plpAfterPhpRestoresTheStatus : Obligations.PlpAfterPhpRestoresTheStatus := by
  intro s pc
  obtain ⟨hbyte, hS⟩ := pull_push s.P.pack s
  refine ⟨_, _, exec_eq_of_implied pushP rfl, exec_eq_of_implied pullP rfl, ?_, hS⟩
  calc
    Status.unpack (s.push s.P.pack).pull.1 = Status.unpack s.P.pack := by rw [hbyte]
    _ = s.P := s.P.unpack_pack

end Sys2Proof.Machine

/-! Proofs about arithmetic and logic (spec/42_arithmetic_logic.md): the adder, the subtraction and the comparison in
integers, and the whole next state of each instruction over them. -/

namespace Sys2Proof.Machine

open Sys2Proof Sys2Proof.Claims

/-! ### The sign of a byte -/

/-- Bit 7 of a byte in unsigned numbers (R21). -/
theorem getLsbD_seven (v : Byte) : v.getLsbD 7 = decide (128 ≤ v.toNat) :=
  (BitVec.msb_eq_getLsbD_last v).symm.trans (BitVec.msb_eq_decide v)

/-- The complement of a byte, read as a signed number. -/
theorem toInt_not_eq (m : Byte) : (~~~m).toInt = -m.toInt - 1 := by
  have hm := m.isLt
  simp only [BitVec.toInt_eq_toNat_cond, BitVec.toNat_not]
  split <;> split <;> omega

/-! ### The adder (R108) -/

/-- Two's-complement overflow: the result's sign differs from that of both operands exactly when the signed sum does not
fit a byte. -/
theorem overflow_bit_eq (a m : Byte) (c : Bool) (r : Byte) (hr : r = BitVec.ofNat 8 (a.toNat + m.toNat + c.toNat)) :
    ((a ^^^ r) &&& (m ^^^ r)).getLsbD 7 =
      decide (a.toInt + m.toInt + c.toNat < -128 ∨ 127 < a.toInt + m.toInt + c.toNat) := by
  have ha := a.isLt
  have hm := m.isLt
  have hc := c.toNat_le
  have hsum : r.toNat = (a.toNat + m.toNat + c.toNat) % 256 := by rw [hr, BitVec.toNat_ofNat]
  rw [BitVec.getLsbD_and, BitVec.getLsbD_xor, BitVec.getLsbD_xor, getLsbD_seven, getLsbD_seven, getLsbD_seven,
    BitVec.toInt_eq_toNat_cond, BitVec.toInt_eq_toNat_cond, Bool.eq_iff_iff]
  simp only [Bool.and_eq_true, Bool.xor_iff_ne, ne_eq, decide_eq_decide, decide_eq_true_eq]
  omega

/-- The model's adder in integers. -/
theorem State.On.addCore_eq_added (m : Byte) (s : State) : s.addCore m = added m s := by
  rw [State.On.addCore_eq]
  dsimp only
  rw [overflow_bit_eq _ _ _ _ rfl, getLsbD_seven, beq_eq_decide]
  rfl

/-- Settles O21: the overflow formula of the model is the range of the signed sum. -/
theorem adderFollowsTheIntegerLaws : Obligations.AdderFollowsTheIntegerLaws := State.On.addCore_eq_added

/-! ### The subtraction (R111) -/

/-- Adding the complement of a byte is subtracting it with the borrow `1 - C`, in the result, the Carry and the Overflow
(R111). -/
theorem added_not (m : Byte) (s : State) : added (~~~m) s = subtracted m s := by
  have hm := m.isLt
  have hc := s.P.C.toNat_le
  have hnot : (~~~m).toNat = 255 - m.toNat := BitVec.toNat_not
  have hr : BitVec.ofNat 8 (s.A.toNat + (~~~m).toNat + s.P.C.toNat) =
      BitVec.ofInt 8 ((s.A.toNat : Int) - m.toNat - (1 - s.P.C.toNat : Nat)) := by
    apply BitVec.eq_of_toNat_eq
    simp only [BitVec.toNat_ofNat, BitVec.toNat_ofInt]
    omega
  have hC : 255 < s.A.toNat + (~~~m).toNat + s.P.C.toNat ↔ m.toNat + (1 - s.P.C.toNat) ≤ s.A.toNat := by omega
  have hV : s.A.toInt + (~~~m).toInt + s.P.C.toNat = s.A.toInt - m.toInt - (1 - s.P.C.toNat : Nat) := by
    rw [toInt_not_eq]
    omega
  simp only [added, subtracted, hr, hC, hV]

theorem subtractCore_eq_subtracted (m : Byte) (s : State) : subtractCore m s = subtracted m s := by
  rw [subtractCore_eq, State.On.addCore_eq_added, added_not]

/-! ### The comparison (R109) -/

/-- Settles O22: the model's comparison, with the sign of the difference in numbers. -/
theorem comparisonFollowsTheIntegerLaws : Obligations.ComparisonFollowsTheIntegerLaws := by
  intro r m s
  rw [State.On.compare_eq, getLsbD_seven, beq_eq_decide, compared]

/-! ### Instructions that read their operand (R110 to R118) -/

/-- Settles O30: the rows, evaluated, and the read form with the adder. -/
theorem adcAddsWithCarry : Obligations.AdcAddsWithCarry := by
  refine ⟨by decide +kernel, fun i s hk => ?_⟩
  exact exec_eq_afterRead State.On.addCore (by rw [execOn, hk]) fun _ => State.On.addCore_eq_added _ _

/-- Settles O31: the rows, evaluated, and the read form with the subtraction. -/
theorem sbcSubtractsWithBorrow : Obligations.SbcSubtractsWithBorrow := by
  refine ⟨by decide +kernel, fun i s hk => ?_⟩
  exact exec_eq_afterRead subtractCore (by rw [execOn, hk]) fun _ => subtractCore_eq_subtracted _ _

/-- Settles O32: the rows, evaluated, and the read form with each bitwise effect. -/
theorem logicCombinesWithTheAccumulator : Obligations.LogicCombinesWithTheAccumulator := by
  refine ⟨by decide +kernel, by decide +kernel, by decide +kernel, fun i s => ?_⟩
  refine ⟨fun hk => ?_, fun hk => ?_, fun hk => ?_⟩
  · exact exec_eq_afterRead andA (by rw [execOn, hk]) fun _ => by rw [andA_eq, Status.setNZ_eq_nz]
  · exact exec_eq_afterRead oraA (by rw [execOn, hk]) fun _ => by rw [oraA_eq, Status.setNZ_eq_nz]
  · exact exec_eq_afterRead eorA (by rw [execOn, hk]) fun _ => by rw [eorA_eq, Status.setNZ_eq_nz]

/-- Settles O33: the rows, evaluated, and the read form with the comparison of each register. -/
theorem comparesSetOnlyCZN : Obligations.ComparesSetOnlyCZN := by
  refine ⟨by decide +kernel, by decide +kernel, by decide +kernel, fun i s => ?_⟩
  refine ⟨fun hk => ?_, fun hk => ?_, fun hk => ?_⟩
  · exact exec_eq_afterRead compareA (by rw [execOn, hk]) fun _ => comparisonFollowsTheIntegerLaws _ _ _
  · exact exec_eq_afterRead compareX (by rw [execOn, hk]) fun _ => comparisonFollowsTheIntegerLaws _ _ _
  · exact exec_eq_afterRead compareY (by rw [execOn, hk]) fun _ => comparisonFollowsTheIntegerLaws _ _ _

/-- Settles O34: the rows, evaluated, and the read form with the bit test. -/
theorem bitTestsMemoryBits : Obligations.BitTestsMemoryBits := by
  refine ⟨by decide +kernel, fun i s hk => ?_⟩
  exact exec_eq_afterRead bitTest (by rw [execOn, hk]) fun _ => by rw [bitTest_eq, beq_eq_decide]; rfl

/-! ### Instructions that read, change and write a byte (R119, R120) -/

/-- A memory read-modify-write leaves `t` in the registers and flags, if its effect on the byte written and the flags of
`f` does so whatever memory and calls stand there (R134). -/
theorem exec_eq_afterModify {i : Instr} {s t : State} (f : Byte → Status → Byte × Status) (g : Byte → State → State)
    (h : execOn i s = rmwForm i.opcode i.operand f g s) (hm : i.operand.mode ∉ addresslessModes) {r : Byte} {p : Status}
    (hf : f (operandByte i s) s.P = (r, p))
    (hg : ∀ m l, g r { s with P := p, mem := m, bus := l } = { t with mem := m, bus := l }) :
    exec i s = .next (afterModify i s r t) := by
  have hop := resolve_operand_eq_address s hm
  have hbyte : operandByte i s = s.mem.read (ea i s) := by rw [operandByte, hop]; rfl
  rw [exec_eq_execOn, h, rmwForm_eq, operandValue_eq_operandByte, hf, pointerCalls_eq_pointerReads, hop]
  dsimp only [writeOperand, operandCalls]
  rw [State.On.busWrite_eq, hg, retire_pagePenalty_eq, afterModify, hbyte, ea,
    List.append_assoc (_ ++ _), List.singleton_append]

/-- The mnemonics that change a byte of memory and have no Accumulator form (R119, R120, R186 to R191). -/
def modifyMnemonics : List Mnemonic := [.INC, .DEC, .DCP, .ISC, .SLO, .RLA, .SRE, .RRA]

/-- Every row of a read-modify-write instruction without an Accumulator form has an address. -/
theorem mode_not_addressless_of_modify {i : Instr} (h : i.mnemonic ∈ modifyMnemonics) :
    i.operand.mode ∉ addresslessModes := by
  have hrows : ∀ op : Byte, (lookup op).mnemonic ∈ modifyMnemonics → (lookup op).mode ∉ addresslessModes := by
    decide +kernel
  exact lookup_mode i ▸ hrows i.opcode (lookup_mnemonic i ▸ h)

/-- `SetNZ` in the words of the claims. -/
theorem State.On.setNZ_eq_nz (v : Byte) (s : State) : s.setNZ v = { s with P := nz s.P v } := by
  rw [← Status.setNZ_eq_nz]
  rfl

/-- Settles O35: the rows, evaluated, and the read-modify-write form with each count. -/
theorem incAndDecChangeMemoryByOne : Obligations.IncAndDecChangeMemoryByOne := by
  refine ⟨by decide +kernel, by decide +kernel, fun i s => ⟨fun hk => ?_, fun hk => ?_⟩⟩
  · exact exec_eq_afterModify increment State.On.setNZ (by rw [execOn, hk])
      (mode_not_addressless_of_modify (hk ▸ by decide)) rfl fun _ _ => State.On.setNZ_eq_nz _ _
  · exact exec_eq_afterModify decrement State.On.setNZ (by rw [execOn, hk])
      (mode_not_addressless_of_modify (hk ▸ by decide)) rfl fun _ _ => State.On.setNZ_eq_nz _ _

/-! ### Counting in the index registers (R121 to R124) -/

/-- Settles O36: the rows, evaluated, and each count at the base cost of its row. -/
theorem indexRegistersCountByOne : Obligations.IndexRegistersCountByOne := by
  refine ⟨by decide +kernel, by decide +kernel, by decide +kernel, by decide +kernel, fun s => ?_⟩
  simp only [← Status.setNZ_eq_nz]
  exact ⟨exec_eq_of_implied incrementX rfl, exec_eq_of_implied incrementY rfl, exec_eq_of_implied decrementX rfl,
    exec_eq_of_implied decrementY rfl⟩

end Sys2Proof.Machine

/-! Proofs about shifts and rotates (spec/43_shift_rotate.md): each result in numbers, the whole next state of an
Accumulator or memory form over it, and rotation through the carry as the rotation of a 9-bit word. -/

namespace Sys2Proof.Machine

open Sys2Proof Sys2Proof.Claims

/-! ### The four results in numbers (R135 to R138) -/

theorem ushiftRight_one_eq_ofNat (m : Byte) : m >>> 1 = BitVec.ofNat 8 (m.toNat / 2) := by
  have hm := m.isLt
  apply BitVec.eq_of_toNat_eq
  rw [BitVec.toNat_ushiftRight, BitVec.toNat_ofNat, Nat.shiftRight_one, Nat.mod_eq_of_lt (by omega)]

theorem shiftLeft_eq (m : Byte) (p : Status) :
    shiftLeft m p = (BitVec.ofNat 8 (m.toNat * 2), { p with C := m[7] }) := by
  rw [← Nat.pow_one 2, ← Nat.shiftLeft_eq]
  rfl

theorem shiftRight_eq (m : Byte) (p : Status) :
    shiftRight m p = (BitVec.ofNat 8 (m.toNat / 2), { p with C := m[0] }) := by
  rw [← ushiftRight_one_eq_ofNat]
  rfl

/-- The carry enters at bit 0, which the shift has cleared, so the union of the bits is a sum. -/
theorem rotateLeft_eq (m : Byte) (p : Status) :
    rotateLeft m p = (BitVec.ofNat 8 (m.toNat * 2 + p.C.toNat), { p with C := m[7] }) := by
  have hc : p.C.toNat < 2 ^ 1 := p.C.toNat_lt
  rw [← Nat.pow_one 2, ← Nat.shiftLeft_eq, Nat.shiftLeft_add_eq_or_of_lt hc, BitVec.ofNat_or]
  rfl

/-- The carry enters at bit 7, which the shift has cleared, so the union of the bits is a sum. -/
theorem rotateRight_eq (m : Byte) (p : Status) :
    rotateRight m p = (BitVec.ofNat 8 (m.toNat / 2 + p.C.toNat * 128), { p with C := m[0] }) := by
  have hhalf : m.toNat / 2 < 2 ^ 7 := by omega
  have hcarry : carryByte p <<< 7 = BitVec.ofNat 8 (p.C.toNat <<< 7) := by
    rw [carryByte]
    cases p.C <;> rfl
  have hsum : BitVec.ofNat 8 (m.toNat / 2 + p.C.toNat * 128) = m >>> 1 ||| carryByte p <<< 7 := calc
    _ = BitVec.ofNat 8 (p.C.toNat <<< 7 + m.toNat / 2) := by rw [Nat.add_comm, Nat.shiftLeft_eq]
    _ = m >>> 1 ||| carryByte p <<< 7 := by
      rw [Nat.shiftLeft_add_eq_or_of_lt hhalf, BitVec.ofNat_or, ← hcarry, ← ushiftRight_one_eq_ofNat, BitVec.or_comm]
  rw [hsum]
  rfl

/-! ### Accumulator and memory forms (R134) -/

theorem operand_eq_accumulator {i : Instr} (h : (lookup i.opcode).mode = .accumulator) : i.operand = .accumulator := by
  rw [lookup_mode] at h
  cases ho : i.operand with
  | accumulator => rfl
  | _ => rw [ho] at h; cases h

/-- The mnemonics that have an Accumulator form beside their memory forms (R135 to R138). -/
def shiftMnemonics : List Mnemonic := [.ASL, .LSR, .ROL, .ROR]

/-- Every row of a shift or rotate is an Accumulator form or has an address. -/
theorem accumulator_or_address_of_shift {i : Instr} (h : i.mnemonic ∈ shiftMnemonics) :
    i.operand = .accumulator ∨ i.operand.mode ∉ addresslessModes := by
  have hrows : ∀ op : Byte, (lookup op).mnemonic ∈ shiftMnemonics →
      (lookup op).mode = .accumulator ∨ (lookup op).mode ∉ addresslessModes := by decide +kernel
  exact (hrows i.opcode (lookup_mnemonic i ▸ h)).imp operand_eq_accumulator fun hm => lookup_mode i ▸ hm

/-- An Accumulator form costs two cycles (R68). -/
theorem cyclesOf_of_accumulator {i : Instr} (h : i.operand = .accumulator) (s : State) : cyclesOf i s = some 2 := by
  have hrows : ∀ op : Byte, (lookup op).mode = .accumulator → (lookup op).baseCycles = 2 := by decide +kernel
  have hbase : i.descriptor.baseCycles = 2 := hrows i.opcode (by rw [lookup_mode, h]; rfl)
  have hcross : (resolve i.operand s).1.pageCrossed = false := by rw [h]; rfl
  rw [cyclesOf, hbase, hcross, Bool.and_false]
  rfl

/-- A read-modify-write on the accumulator makes no bus call and writes A. -/
theorem rmwForm_accumulator_eq (op : Byte) (f : Byte → Status → Byte × Status) (g : Byte → State → State) (s : State) :
    rmwForm op .accumulator f g s =
      retire op (pagePenalty op (resolve .accumulator s).1.pageCrossed)
        (g (f s.A s.P).1 { s with A := (f s.A s.P).1, P := (f s.A s.P).2 }) := rfl

/-- A shift or rotate leaves the result and the carry out of `f` in the form its operand names. -/
theorem exec_eq_afterShift {i : Instr} {s : State} (f : Byte → Status → Byte × Status)
    (h : execOn i s = rmwForm i.opcode i.operand f State.On.setNZ s) (hk : i.mnemonic ∈ shiftMnemonics) {r : Byte}
    {c : Bool} (hf : f (operandByte i s) s.P = (r, { s.P with C := c })) : exec i s = .next (afterShift i s r c) := by
  rcases accumulator_or_address_of_shift hk with hacc | hmem
  · have hA : operandByte i s = s.A := by rw [operandByte, hacc]; rfl
    rw [afterShift, if_pos hacc, ← cyclesOf_of_accumulator hacc s, exec_eq_execOn, h, hacc, rmwForm_accumulator_eq,
      ← hA, hf, ← hacc, retire_pagePenalty_eq, State.On.setNZ_eq_nz]
  · have hne : i.operand ≠ .accumulator := fun ho => hmem (ho ▸ by decide)
    rw [afterShift, if_neg hne]
    exact exec_eq_afterModify f State.On.setNZ h hmem hf fun _ _ => State.On.setNZ_eq_nz _ _

/-- Settles O37: the rows, evaluated, and the read-modify-write form with each result in numbers. -/
theorem shiftsAndRotatesMoveOneBit : Obligations.ShiftsAndRotatesMoveOneBit := by
  refine ⟨by decide +kernel, by decide +kernel, by decide +kernel, by decide +kernel, fun i s => ?_⟩
  refine ⟨fun hk => ?_, fun hk => ?_, fun hk => ?_, fun hk => ?_⟩
  · exact exec_eq_afterShift shiftLeft (by rw [execOn, hk]) (hk ▸ by decide) (shiftLeft_eq _ _)
  · exact exec_eq_afterShift shiftRight (by rw [execOn, hk]) (hk ▸ by decide) (shiftRight_eq _ _)
  · exact exec_eq_afterShift rotateLeft (by rw [execOn, hk]) (hk ▸ by decide) (rotateLeft_eq _ _)
  · exact exec_eq_afterShift rotateRight (by rw [execOn, hk]) (hk ▸ by decide) (rotateRight_eq _ _)

/-! ### Rotation through the carry as the rotation of a 9-bit word (R137, R138) -/

/-- The word `{C, m}`: the carry at bit 8 over the byte. -/
def carryWord (q : Byte × Status) : BitVec 9 := BitVec.cons q.2.C q.1

theorem getElem_carryWord (q : Byte × Status) (j : Nat) (hj : j < 9) :
    (carryWord q)[j] = if h : j = 8 then q.2.C else q.1[j] := BitVec.getElem_cons hj

/-- The word holds the byte and the carry apart. -/
theorem eq_of_carryWord_eq {q r : Byte × Status} (h : carryWord q = carryWord r) : q.1 = r.1 ∧ q.2.C = r.2.C := by
  have hbyte := congrArg (BitVec.setWidth 8) h
  have hcarry := congrArg BitVec.msb h
  rw [carryWord, carryWord, BitVec.setWidth_cons, BitVec.setWidth_cons] at hbyte
  rw [carryWord, carryWord, BitVec.msb_cons, BitVec.msb_cons] at hcarry
  exact ⟨hbyte, hcarry⟩

theorem getElem_carryByte (p : Status) (j : Nat) (hj : j < 8) : (carryByte p)[j] = (decide (j = 0) && p.C) := by
  rw [carryByte]
  cases p.C <;> simp

theorem carryWord_rotateLeft (m : Byte) (p : Status) :
    carryWord (rotateLeft m p) = (carryWord (m, p)).rotateLeft 1 := by
  ext j hj
  simp only [getElem_carryWord, rotateLeft, BitVec.getElem_rotateLeft]
  interval_cases j <;> simp [getElem_carryByte]

theorem carryWord_rotateRight (m : Byte) (p : Status) :
    carryWord (rotateRight m p) = (carryWord (m, p)).rotateRight 1 := by
  ext j hj
  simp only [getElem_carryWord, rotateRight, BitVec.getElem_rotateRight]
  interval_cases j <;> simp [getElem_carryByte]

/-- The word `{C, A}` of a state. -/
def accumulatorWord (s : State) : BitVec 9 := carryWord (s.A, s.P)

theorem accumulatorWord_rolAcc : Function.Semiconj accumulatorWord (runOne .rolAcc) (·.rotateLeft 1) := by
  intro s
  have h : exec .rolAcc s = .next (afterShift .rolAcc s (rotateLeft s.A s.P).1 (rotateLeft s.A s.P).2.C) :=
    exec_eq_afterShift rotateLeft rfl (by decide) rfl
  rw [runOne, h]
  exact carryWord_rotateLeft s.A s.P

theorem accumulatorWord_rorAcc : Function.Semiconj accumulatorWord (runOne .rorAcc) (·.rotateRight 1) := by
  intro s
  have h : exec .rorAcc s = .next (afterShift .rorAcc s (rotateRight s.A s.P).1 (rotateRight s.A s.P).2.C) :=
    exec_eq_afterShift rotateRight rfl (by decide) rfl
  rw [runOne, h]
  exact carryWord_rotateRight s.A s.P

/-- Each of the nine bits comes back to its place. -/
theorem rotateLeft_one_iterate_nine (w : BitVec 9) : (fun v : BitVec 9 => v.rotateLeft 1)^[9] w = w := by
  ext j hj
  interval_cases j <;> simp [BitVec.getElem_rotateLeft]

/-- Each of the nine bits comes back to its place. -/
theorem rotateRight_one_iterate_nine (w : BitVec 9) : (fun v : BitVec 9 => v.rotateRight 1)^[9] w = w := by
  ext j hj
  interval_cases j <;> simp [BitVec.getElem_rotateRight]

/-- An instruction that moves `{C, A}` by a map of period nine restores A and C after nine runs. -/
theorem runOne_iterate_nine {i : Instr} {g : BitVec 9 → BitVec 9} (h : Function.Semiconj accumulatorWord (runOne i) g)
    (hg : ∀ w, g^[9] w = w) (s : State) : ((runOne i)^[9] s).A = s.A ∧ ((runOne i)^[9] s).P.C = s.P.C :=
  eq_of_carryWord_eq ((h.iterate_right 9 s).trans (hg _))

/-- Settles O23: a rotate through the carry is a one-place rotation of `{C, A}`, which has nine bits. -/
theorem nineRotatesRestoreTheAccumulator : Obligations.NineRotatesRestoreTheAccumulator := fun s =>
  ⟨runOne_iterate_nine accumulatorWord_rolAcc rotateLeft_one_iterate_nine s,
    runOne_iterate_nine accumulatorWord_rorAcc rotateRight_one_iterate_nine s⟩

end Sys2Proof.Machine

/-! Proofs about control flow (spec/44_control_flow.md): the whole next state of a jump, of a branch, of the returns and of
the trap, the last on FlatRam with any configuration. -/

namespace Sys2Proof.Machine

open Sys2Proof Sys2Proof.Claims

/-! ### Jumps (R145) -/

/-- A jump leaves what its effect leaves at the effective address, reads nothing but the pointer (R72), and costs the base
cycles of its row. -/
theorem exec_eq_of_jump {i : Instr} {s : State} (op : Byte) (o : Operand) (f : Addr → State → State)
    (h : execOn i s = jumpForm op o f s) (hp : (lookup op).pagePenalty = false) :
    exec i s =
      .next { f (effectiveAddress o s) { s with bus := s.bus ++ pointerReads o s } with
        cycles := some (BitVec.ofNat 32 (lookup op).baseCycles) } := by
  have hpenalty : pagePenalty op (resolve o s).1.pageCrossed = 0 := by simp [pagePenalty, hp]
  rw [exec_eq_execOn, h, jumpForm_eq, hpenalty, pointerCalls_eq_pointerReads, retire_eq, Nat.add_zero]

/-- A jump to an absolute address makes no bus call of its own. -/
theorem exec_eq_of_absolute_jump {i : Instr} {s : State} (op : Byte) (w : Addr) (f : Addr → State → State)
    (h : execOn i s = jumpForm op (.absolute w) f s) (hp : (lookup op).pagePenalty = false) :
    exec i s = .next { f w s with cycles := some (BitVec.ofNat 32 (lookup op).baseCycles) } := by
  have hreads : pointerReads (.absolute w) s = [] := rfl
  have hea : effectiveAddress (.absolute w) s = w := rfl
  rw [exec_eq_of_jump op _ f h hp, hreads, hea, List.append_nil]

/-- Settles O38: the rows, evaluated, and the jump form, with the address of the pointer's high byte in numbers. -/
theorem jmpLoadsThePC : Obligations.JmpLoadsThePC := by
  refine ⟨by decide +kernel, ?_⟩
  intro w s h
  have hpage : word16 (hi w) (lo w + 1) = h := word16_hi_lo_add_one w
  rw [← hpage]
  exact ⟨exec_eq_of_absolute_jump 0x4C w State.On.setPC rfl rfl,
    exec_eq_of_jump 0x6C (.indirect w) State.On.setPC rfl rfl⟩

/-! ### Call and return (R146, R147) -/

/-- Settles O39: the row, evaluated, and the jump form with the two pushes at the stack addresses in numbers. -/
theorem jsrPushesAndJumps : Obligations.JsrPushesAndJumps := by
  refine ⟨by decide +kernel, ?_⟩
  intro w s ret a1 a2
  have ha1 : stackAddr s.S = a1 := stackAddr_eq_ofNat s.S
  have ha2 : stackAddr (s.S - 1) = a2 := stackAddr_eq_ofNat (s.S - 1)
  have hS : s.S - 1 - 1 = s.S - 2 := sub_sub s.S 1 1
  rw [exec_eq_of_absolute_jump 0x20 w callTo rfl rfl, callTo_eq, ha1, ha2, hS]
  rfl

/-- Settles O40: the row, evaluated, and the two pulls at the stack addresses in numbers. -/
theorem rtsPullsAndReturns : Obligations.RtsPullsAndReturns := by
  refine ⟨by decide +kernel, ?_⟩
  intro s a1 a2
  have hS : s.S + 1 + 1 = s.S + 2 := add_assoc s.S 1 1
  have ha1 : stackAddr (s.S + 1) = a1 := stackAddr_eq_ofNat (s.S + 1)
  have ha2 : stackAddr (s.S + 2) = a2 := stackAddr_eq_ofNat (s.S + 2)
  rw [exec_eq_of_implied returnFromCall rfl, returnFromCall_eq, hS, ha1, ha2]
  rfl

/-- A return from a state with the stack a call left pulls the pushed address, and adds the 1 that the call subtracted. -/
theorem returnFromCall_of_callTo {s t : State} {target : Addr} (hS : t.S = (callTo target s).S)
    (hmem : t.mem = (callTo target s).mem) : (returnFromCall t).PC = s.PC ∧ (returnFromCall t).S = s.S := by
  obtain ⟨hword, hrestored⟩ := pull16_push16 (s.PC - 1) s
  have hword' : t.pull16.1 = s.PC - 1 := by rw [← hword, State.On.pull16_fst, State.On.pull16_fst, hS, hmem]; rfl
  have hS' : t.pull16.2.S = s.S := by rw [← hrestored, State.On.pull16_snd, State.On.pull16_snd, hS]; rfl
  rw [returnFromCall, State.On.setPC_PC, State.On.setPC_S, hword', BitVec.sub_add_cancel]
  exact ⟨rfl, hS'⟩

/-- Settles O41: JSR and RTS leave what the call and the return leave, and the return looks at neither `PC` nor the cycle
count. -/
theorem rtsReturnsPastTheJsr : Obligations.RtsReturnsPastTheJsr := by
  intro w s pc
  refine ⟨_, _, exec_eq_of_absolute_jump 0x20 w callTo rfl rfl, exec_eq_of_implied returnFromCall rfl, ?_⟩
  exact returnFromCall_of_callTo (target := w) rfl rfl

/-! ### Branches (R148 to R156) -/

/-- Every branch row has two base cycles. -/
theorem baseCycles_of_branch {i : Instr} (h : i.mnemonic.isBranch = true) : i.descriptor.baseCycles = 2 := by
  have hrows : ∀ op : Byte, (lookup op).mnemonic.isBranch = true → (lookup op).baseCycles = 2 := by decide +kernel
  exact hrows i.opcode (lookup_mnemonic i ▸ h)

/-- A branch goes to its target with the penalty of the page test, or falls through (R148). -/
theorem exec_eq_afterBranch {i : Instr} {s : State} (c : Status → Bool) (hb : i.mnemonic.isBranch = true)
    (h : execOn i s = branchForm i.opcode (displacement i.operand) c s) :
    exec i s = .next (afterBranch (displacement i.operand) (c s.P) s) := by
  have hbase : (lookup i.opcode).baseCycles = 2 := baseCycles_of_branch hb
  rw [exec_eq_execOn, h, branchForm_eq, retire_eq, hbase, add_sext16, differentPage_eq, ← branchTarget, afterBranch]
  cases c s.P with
  | false => rfl
  | true =>
    by_cases hpage : (branchTarget (displacement i.operand) s).toNat / 256 = s.PC.toNat / 256 <;>
      simp [branchPenalty, hpage]

/-- Settles O42: the rows, evaluated, and the branch form with each condition. -/
theorem branchesTestOneFlag : Obligations.BranchesTestOneFlag := by
  refine ⟨by decide +kernel, by decide +kernel, by decide +kernel, by decide +kernel, by decide +kernel,
    by decide +kernel, by decide +kernel, by decide +kernel, fun d s => ?_⟩
  exact ⟨exec_eq_afterBranch (fun p => !p.C) rfl rfl, exec_eq_afterBranch (fun p => p.C) rfl rfl,
    exec_eq_afterBranch (fun p => p.Z) rfl rfl, exec_eq_afterBranch (fun p => !p.Z) rfl rfl,
    exec_eq_afterBranch (fun p => p.N) rfl rfl, exec_eq_afterBranch (fun p => !p.N) rfl rfl,
    exec_eq_afterBranch (fun p => !p.V) rfl rfl, exec_eq_afterBranch (fun p => p.V) rfl rfl⟩

/-! ### The trap on FlatRam with any configuration (R157, R216) -/

section AnyConfiguration

variable {c : Config}

theorem State.On.push_flat_eq (v : Byte) (s : State.On (Platform.flat c)) :
    s.push v =
      { s with
        S := s.S - 1
        mem := s.mem.write (stackAddr s.S) v
        bus := s.bus ++ [.write (stackAddr s.S) v] } := rfl

theorem State.On.push16_flat_eq (w : Addr) (s : State.On (Platform.flat c)) :
    s.push16 w =
      { s with
        S := s.S - 2
        mem := (s.mem.write (stackAddr s.S) (hi w)).write (stackAddr (s.S - 1)) (lo w)
        bus := s.bus ++ [.write (stackAddr s.S) (hi w), .write (stackAddr (s.S - 1)) (lo w)] } := by
  have hS : s.S - 1 - 1 = s.S - 2 := sub_sub s.S 1 1
  rw [State.On.push16, State.On.push_flat_eq, State.On.push_flat_eq, hS, List.append_assoc, List.singleton_append]

theorem State.On.busRead_flat_eq (a : Addr) (s : State.On (Platform.flat c)) :
    s.busRead a = (s.mem.read a, { s with bus := s.bus ++ [.read a (s.mem.read a)] }) := rfl

theorem State.On.read16_flat_eq (a : Addr) (s : State.On (Platform.flat c)) :
    s.read16 a =
      (word16 (s.mem.read (a + 1)) (s.mem.read a),
        { s with bus := s.bus ++ [.read a (s.mem.read a), .read (a + 1) (s.mem.read (a + 1))] }) := by
  simp only [State.On.read16, State.On.readPair, State.On.busRead_flat_eq, List.append_assoc, List.singleton_append]

/-- BRK takes the trap, with the stack addresses in numbers and the vector of the configuration. -/
theorem breakTrap_eq_afterBrk (s : State.On (Platform.flat c)) :
    (breakTrap s).setCycles (some 7) = afterBrk c s := by
  have hS : s.S - 2 - 1 = s.S - 3 := sub_sub s.S 2 1
  rw [breakTrap, State.On.takeTrap, State.On.push16_flat_eq, State.On.push_flat_eq, State.On.read16_flat_eq]
  simp only [State.On.setP, stackAddr_eq_ofNat, hS, List.append_assoc]
  rfl

theorem execOn_brk_eq_afterBrk (s : State.On (Platform.flat c)) : execOn .brk s = .next (afterBrk c s) := by
  rw [← breakTrap_eq_afterBrk]
  rfl

end AnyConfiguration

/-- Settles O43: the row, evaluated, and the trap on FlatRam, of which the platform of `exec` is one. -/
theorem brkEntersTheHandler : Obligations.BrkEntersTheHandler :=
  ⟨by decide +kernel, fun s => (exec_eq_execOn .brk s).trans (execOn_brk_eq_afterBrk s),
    fun _ => execOn_brk_eq_afterBrk⟩

/-! ### The return from the trap (R158, R217) -/

/-- Settles O44: the row, evaluated, and the three pulls at the stack addresses in numbers; the status unpacks by R19's
layout. -/
theorem rtiRestoresStatusAndPC : Obligations.RtiRestoresStatusAndPC := by
  refine ⟨by decide +kernel, ?_⟩
  intro s a1 a2 a3 m
  have hS2 : s.S + 1 + 1 = s.S + 2 := add_assoc s.S 1 1
  have hS3 : s.S + 2 + 1 = s.S + 3 := add_assoc s.S 2 1
  have ha1 : stackAddr (s.S + 1) = a1 := stackAddr_eq_ofNat (s.S + 1)
  have ha2 : stackAddr (s.S + 2) = a2 := stackAddr_eq_ofNat (s.S + 2)
  have ha3 : stackAddr (s.S + 3) = a3 := stackAddr_eq_ofNat (s.S + 3)
  rw [exec_eq_of_implied State.On.returnFromTrap rfl, State.On.returnFromTrap_eq, hS2, hS3, ha1, ha2, ha3,
    ← Status.unpack_eq]
  rfl

end Sys2Proof.Machine

/-! Proofs about flag instructions and every NOP, official or not (spec/45_flags_nop.md and R181, R182 of
spec/46_unofficial.md), from the whole next state of an instruction without an operand and of one that reads its operand. -/

namespace Sys2Proof.Machine

open Sys2Proof Sys2Proof.Claims

/-! ### NOP (R177, R181, R182) -/

/-- Settles O47: the rows, evaluated, and the read form, whose effect discards the byte. -/
theorem nopsChangeNothing : Obligations.NopsChangeNothing := by
  refine ⟨by decide +kernel, fun i s hk => ?_⟩
  exact exec_eq_afterRead discardByte (by rw [execOn, hk]) fun _ => discardByte_eq _ _

/-! ### Flag instructions (R170 to R176) -/

/-- Settles O46: the rows, evaluated, and each flag's effect at the base cost of its row. -/
theorem flagInstructionsWriteOneFlag : Obligations.FlagInstructionsWriteOneFlag := by
  refine ⟨by decide +kernel, by decide +kernel, by decide +kernel, by decide +kernel, by decide +kernel,
    by decide +kernel, by decide +kernel, fun s => ?_⟩
  exact ⟨exec_eq_of_implied clearC rfl, exec_eq_of_implied setC rfl, exec_eq_of_implied clearI rfl,
    exec_eq_of_implied setI rfl, exec_eq_of_implied clearD rfl, exec_eq_of_implied setD rfl,
    exec_eq_of_implied clearV rfl⟩

end Sys2Proof.Machine

/-! Proofs about the unofficial opcodes that execute, the halt opcode and the seven unstable ones
(spec/46_unofficial.md), from the forms of the official instructions they combine. -/

namespace Sys2Proof.Machine

open Sys2Proof Sys2Proof.Claims

/-! ### The rows of a mnemonic, read off the table (R69, R75) -/

/-- The 256 rows in the order of their opcodes. -/
def allRows : List Descriptor := (List.range 16).flatMap tableRows

set_option maxRecDepth 2000 in
theorem map_lookup_range : (List.range 256).map (fun n => lookup (BitVec.ofNat 8 n)) = allRows := rfl

/-- The forms of a mnemonic as the table alone has them. -/
def tableForms (m : Mnemonic) : List (Byte × Mode × Nat × Nat × Bool) :=
  allRows.filterMap fun d =>
    if d.mnemonic = m then some (d.opcode, d.mode, d.length, d.baseCycles, d.pagePenalty) else none

/-- The decoder gives each opcode the mnemonic and the mode of its row, so the rows are evaluated without the decoder. -/
theorem formsOf_eq_tableForms (m : Mnemonic) : formsOf m = tableForms m := by
  rw [formsOf, tableForms, ← map_lookup_range, List.filterMap_map]
  refine congrArg (List.filterMap · _) (funext fun n => ?_)
  have hop := instrOf_opcode (BitVec.ofNat 8 n) 0 0
  have hk := lookup_mnemonic (instrOf (BitVec.ofNat 8 n) 0 0)
  have hmode := lookup_mode (instrOf (BitVec.ofNat 8 n) 0 0)
  rw [hop] at hk hmode
  simp only [Function.comp_apply, lookup_opcode, hk, hmode]

theorem formsOf_of_tableForms {m : Mnemonic} {l : List (Byte × Mode × Nat × Nat × Bool)} (h : tableForms m = l) :
    formsOf m = l :=
  (formsOf_eq_tableForms m).trans h

/-! ### Loads and stores of combined registers (R183, R184, R196) -/

/-- Settles O48: the rows, evaluated, the read form for the loads and the store form for SAX. -/
theorem laxSaxLasCombineRegisters : Obligations.LaxSaxLasCombineRegisters := by
  refine ⟨formsOf_of_tableForms (by decide), formsOf_of_tableForms (by decide), formsOf_of_tableForms (by decide),
    fun i s => ?_⟩
  refine ⟨fun hk => ?_, fun hk => ?_, fun hk => ?_⟩
  · exact exec_eq_afterRead loadAX (by rw [execOn, hk]) fun _ => by rw [loadAX_eq, Status.setNZ_eq_nz]
  · exact exec_eq_afterStore aAndX (by rw [execOn, hk]) (hk ▸ by decide)
  · exact exec_eq_afterRead andStackPointer (by rw [execOn, hk]) fun _ => by
      rw [andStackPointer_eq, Status.setNZ_eq_nz]

/-! ### Read-modify-write combined with A (R186 to R191) -/

/-- Settles O49: the rows, evaluated, and the count followed by the comparison or the subtraction. -/
theorem dcpAndIscModifyThenCombine : Obligations.DcpAndIscModifyThenCombine := by
  refine ⟨formsOf_of_tableForms (by decide), formsOf_of_tableForms (by decide), fun i s => ⟨fun hk => ?_, fun hk => ?_⟩⟩
  · exact exec_eq_afterModify decrement compareA (by rw [execOn, hk]) (mode_not_addressless_of_modify (hk ▸ by decide))
      rfl fun _ _ => comparisonFollowsTheIntegerLaws _ _ _
  · exact exec_eq_afterModify increment subtractCore (by rw [execOn, hk])
      (mode_not_addressless_of_modify (hk ▸ by decide)) rfl fun _ _ => subtractCore_eq_subtracted _ _

/-- Settles O50: the rows, evaluated, and each shift in numbers followed by its operation on A; the adder of RRA runs on
the flags the rotate left. -/
theorem sloRlaSreRraShiftThenCombine : Obligations.SloRlaSreRraShiftThenCombine := by
  refine ⟨formsOf_of_tableForms (by decide), formsOf_of_tableForms (by decide), formsOf_of_tableForms (by decide),
    formsOf_of_tableForms (by decide), fun i s => ?_⟩
  refine ⟨fun hk => ?_, fun hk => ?_, fun hk => ?_, fun hk => ?_⟩ <;>
    have hmem := mode_not_addressless_of_modify (i := i) (hk ▸ by decide)
  · exact exec_eq_afterModify shiftLeft oraA (by rw [execOn, hk]) hmem (shiftLeft_eq _ _) fun _ _ => by
      rw [oraA_eq, Status.setNZ_eq_nz]
  · exact exec_eq_afterModify rotateLeft andA (by rw [execOn, hk]) hmem (rotateLeft_eq _ _) fun _ _ => by
      rw [andA_eq, Status.setNZ_eq_nz]
  · exact exec_eq_afterModify shiftRight eorA (by rw [execOn, hk]) hmem (shiftRight_eq _ _) fun _ _ => by
      rw [eorA_eq, Status.setNZ_eq_nz]
  · exact exec_eq_afterModify rotateRight State.On.addCore (by rw [execOn, hk]) hmem (rotateRight_eq _ _) fun _ _ =>
      State.On.addCore_eq_added _ _

/-! ### Operations with an immediate byte (R192 to R195) -/

/-- An instruction with an immediate byte makes no bus call of its own, leaves `t` in the registers and flags if its effect
does so, and costs the base cycles of its row (R68, R72). -/
theorem exec_eq_of_immediate {i : Instr} {s t : State} (op b : Byte) (f : Byte → State → State)
    (h : execOn i s = readForm op (.immediate b) f s) (hf : f b s = t) :
    exec i s = .next { t with cycles := some (BitVec.ofNat 32 (lookup op).baseCycles) } := by
  have hpenalty : pagePenalty op (resolve (.immediate b) s).1.pageCrossed = 0 := by simp [pagePenalty, resolve]
  have hvalue : operandValue (resolve (.immediate b) s).1.operand s = b := rfl
  have hpointer : pointerCalls (.immediate b) s = [] := rfl
  have hdata : operandCalls (resolve (.immediate b) s).1.operand s = [] := rfl
  rw [exec_eq_execOn, h, readForm_eq, hpenalty, hvalue, hpointer, hdata, List.append_nil, List.append_nil, hf, retire_eq,
    Nat.add_zero]

theorem andCopySign_eq_nz (m : Byte) (s : State) :
    andCopySign m s = { s with A := s.A &&& m, P := nz { s.P with C := (s.A &&& m)[7] } (s.A &&& m) } := by
  rw [andCopySign_eq, Status.setNZ_eq_nz]
  rfl

theorem andShiftRight_eq_nz (m : Byte) (s : State) :
    andShiftRight m s =
      let h : Byte := BitVec.ofNat 8 ((s.A &&& m).toNat / 2)
      { s with A := h, P := nz { s.P with C := (s.A &&& m)[0] } h } := by
  rw [andShiftRight_eq, ushiftRight_one_eq_ofNat]
  dsimp only
  rw [Status.setNZ_eq_nz]
  rfl

theorem andRotateRight_eq_nz (m : Byte) (s : State) :
    andRotateRight m s =
      let r : Byte := BitVec.ofNat 8 ((s.A &&& m).toNat / 2 + s.P.C.toNat * 128)
      { s with A := r, P := nz { s.P with C := r[6], V := r[6] ^^ r[5] } r } := by
  rw [andRotateRight, rotateRight_eq]
  dsimp only
  rw [State.On.setNZ_eq_nz]
  rfl

theorem subtractFromAX_eq_nz (m : Byte) (s : State) :
    subtractFromAX m s =
      let u := s.A &&& s.X
      { s with X := u - m, P := nz { s.P with C := decide (m.toNat ≤ u.toNat) } (u - m) } := by
  rw [subtractFromAX_eq]
  dsimp only
  rw [Status.setNZ_eq_nz]
  rfl

/-- Settles O51: the rows, evaluated, and each effect in numbers at the base cost of its row. -/
theorem ancAlrArrSbxUseTheImmediate : Obligations.AncAlrArrSbxUseTheImmediate := by
  refine ⟨formsOf_of_tableForms (by decide), formsOf_of_tableForms (by decide), formsOf_of_tableForms (by decide),
    formsOf_of_tableForms (by decide), fun b s => ?_⟩
  exact ⟨exec_eq_of_immediate 0x0B b andCopySign rfl (andCopySign_eq_nz b s),
    exec_eq_of_immediate 0x2B b andCopySign rfl (andCopySign_eq_nz b s),
    exec_eq_of_immediate 0x4B b andShiftRight rfl (andShiftRight_eq_nz b s),
    exec_eq_of_immediate 0x6B b andRotateRight rfl (andRotateRight_eq_nz b s),
    exec_eq_of_immediate 0xCB b subtractFromAX rfl (subtractFromAX_eq_nz b s)⟩

/-! ### The halt opcode (R197, R211) -/

theorem exec_of_jam {i : Instr} (s : State) (hk : i.mnemonic = .JAM) :
    exec i s = .next { s with halted := true, cycles := none } := by
  rw [exec_eq_execOn, execOn, hk, haltForm_eq]

/-- Where one byte is fetched, `PC` moves past the opcode, whose read is the one call (R44). -/
theorem State.On.fetched_of_fetchLength_one {s : State} (h : fetchLength (s.mem.read s.PC) = 1) :
    s.fetched = { s with PC := s.PC + 1, bus := [.read s.PC (s.mem.read s.PC)] } := by
  rw [State.On.fetched_eq, h]
  rfl

theorem fetchLength_of_jam {op : Byte} : (lookup op).mnemonic = .JAM → fetchLength op = 1 := by
  revert op
  decide

/-- A running core that fetches a JAM reads its opcode and halts past it. -/
theorem step_of_jam {s : State} (hrun : s.halted = false) (hk : (lookup (s.mem.read s.PC)).mnemonic = .JAM) :
    step s =
      .next { s with PC := s.PC + 1, halted := true, cycles := none, bus := [.read s.PC (s.mem.read s.PC)] } := by
  have hinstr : (instrAt s).mnemonic = .JAM := by rw [← lookup_mnemonic, instrAt_opcode, hk]
  rw [step_running hrun, exec_of_jam _ hinstr, State.On.fetched_of_fetchLength_one (fetchLength_of_jam hk)]

/-- Settles O52: the rows, evaluated, and the halt form after the fetch of one byte; a halted core does not step. -/
theorem jamHaltsTheCore : Obligations.JamHaltsTheCore := by
  refine ⟨formsOf_of_tableForms (by decide), fun i s hk => ⟨exec_of_jam s hk, fun hrun hop => ⟨?_, step_halted rfl⟩⟩⟩
  rw [← hop]
  exact step_of_jam hrun (by rw [hop, lookup_mnemonic, hk])

/-! ### The unstable opcodes (R198 to R203) -/

theorem exec_of_unimplemented {i : Instr} (s : State) (hu : i.descriptor.cls = .unimplemented) :
    exec i s = .refused (.unimplementedBehavior i.opcode (s.PC - 1)) := by
  rw [exec_eq_execOn, execOn_unimplemented hu, unimplementedForm_eq]

theorem fetchLength_of_unimplemented {op : Byte} (hu : (lookup op).cls = .unimplemented) : fetchLength op = 1 := by
  rw [fetchLength, hu]

/-- Only the opcode is fetched, so the byte before `PC` is the opcode itself (R212). -/
theorem step_of_unimplemented {s : State} (hrun : s.halted = false)
    (hu : (lookup (s.mem.read s.PC)).cls = .unimplemented) :
    step s = .refused (.unimplementedBehavior (s.mem.read s.PC) s.PC) := by
  have hinstr : (instrAt s).descriptor.cls = .unimplemented := by rw [instrAt_descriptor, hu]
  have hpc : s.fetched.PC - 1 = s.PC := by
    rw [State.On.fetched_of_fetchLength_one (fetchLength_of_unimplemented hu)]
    exact BitVec.add_sub_cancel s.PC 1
  rw [step_running hrun, exec_of_unimplemented _ hinstr, instrAt_opcode, hpc]

/-- The outcome of a refused step keeps every register and flag and the memory; its one call is the opcode fetch (R212). -/
theorem stepOutcome_of_unimplemented {s : State} {op : Byte} {a : Addr}
    (h : step s = .refused (.unimplementedBehavior op a)) :
    stepOutcome s =
      (.unimplementedBehavior op a, { s with cycles := none, bus := [.read s.PC (s.mem.read s.PC)] }) := by
  rw [stepOutcome, h]
  rfl

theorem cls_of_unstable_opcode :
    ∀ op ∈ ([0x8B, 0xAB, 0x93, 0x9F, 0x9E, 0x9C, 0x9B] : List Byte), (lookup op).cls = .unimplemented := by
  decide

/-- Settles O53: the rows, evaluated, and the unimplemented form at the address before `PC`, which in a step is that of
the opcode. -/
theorem unstableOpcodesAreRefused : Obligations.UnstableOpcodesAreRefused := by
  refine ⟨formsOf_of_tableForms (by decide), formsOf_of_tableForms (by decide), formsOf_of_tableForms (by decide),
    formsOf_of_tableForms (by decide), formsOf_of_tableForms (by decide), formsOf_of_tableForms (by decide),
    fun b w s => ?_, fun s hrun hop => ?_⟩
  · exact ⟨exec_of_unimplemented s (cls_of_unstable_opcode 0x8B (by decide)),
      exec_of_unimplemented s (cls_of_unstable_opcode 0xAB (by decide)),
      exec_of_unimplemented s (cls_of_unstable_opcode 0x93 (by decide)),
      exec_of_unimplemented s (cls_of_unstable_opcode 0x9F (by decide)),
      exec_of_unimplemented s (cls_of_unstable_opcode 0x9E (by decide)),
      exec_of_unimplemented s (cls_of_unstable_opcode 0x9C (by decide)),
      exec_of_unimplemented s (cls_of_unstable_opcode 0x9B (by decide))⟩
  · have hstep := step_of_unimplemented hrun (cls_of_unstable_opcode _ hop)
    exact ⟨hstep, stepOutcome_of_unimplemented hstep⟩

end Sys2Proof.Machine

/-! Proofs about the outcomes of a step (spec/60_exceptions.md): which outcome the class of the opcode gives, and what runs
of successful steps keep. -/

namespace Sys2Proof.Machine

open Sys2Proof Sys2Proof.Claims

/-! ### Successful steps (R210, R211) -/

/-- A step is successful when it answers a next state that has a cycle count. -/
theorem successfulStep_iff {s t : State} {n : CycleCount} :
    SuccessfulStep s n t ↔ step s = .next t ∧ t.cycles = some n := by
  rw [SuccessfulStep, stepOutcome]
  cases step s with
  | next u =>
    refine ⟨fun h => ?_, ?_⟩
    · cases hu : u.cycles <;> simp only [State.On.outcome, hu] at h <;> cases h
      exact ⟨rfl, hu⟩
    · rintro ⟨⟨⟩, ht⟩
      simp only [State.On.outcome, ht]
  | fault f => simp [State.On.outcome]
  | refused r => cases r <;> simp [State.On.outcome]

/-- The state a successful step leaves reports a cycle count, which a halted core with the invariant has not. -/
theorem SuccessfulStep.keeps_inv_and_runs {s t : State} {n : CycleCount} (h : SuccessfulStep s n t) (hs : s.Inv) :
    t.Inv ∧ t.halted = false := by
  obtain ⟨hstep, hcycles⟩ := successfulStep_iff.mp h
  have ht : t.Inv := stepKeepsTheInvariant s t hs hstep
  refine ⟨ht, Bool.eq_false_of_not_eq_true fun hhalted => ?_⟩
  rw [ht.2 hhalted] at hcycles
  cases hcycles

/-- Settles O60: one successful step keeps the invariant and leaves the core running, and a run is a sequence of them. -/
theorem successfulRunsKeepTheInvariantAndNeverHalt : Obligations.SuccessfulRunsKeepTheInvariantAndNeverHalt := by
  refine ⟨fun s t n hs _ h => h.keeps_inv_and_runs hs, fun s t hrun hs hhalted => ?_⟩
  induction hrun with
  | start => exact ⟨hs, hhalted⟩
  | step t u n _ hstep ih => exact hstep.keeps_inv_and_runs ih.1

/-! ### The halted core (R213) -/

theorem stepOutcome_of_halted {s : State} (h : s.halted = true) :
    stepOutcome s = (.steppedWhileHalted, { s with cycles := none, bus := [] }) := by
  rw [stepOutcome, step_halted h]
  rfl

/-- Settles O7: a halted core faults before anything is fetched, and the outcome of that fault only clears the outputs. -/
theorem haltedCoreRefusesToStep : Obligations.HaltedCoreRefusesToStep :=
  fun _ h => ⟨step_halted h, stepOutcome_of_halted h⟩

/-! ### The outcome of a running step, by the class of its opcode (R210 to R212) -/

theorem lookup_mem_allRows (op : Byte) : lookup op ∈ allRows := by
  rw [← map_lookup_range]
  exact List.mem_map.mpr ⟨op.toNat, List.mem_range.mpr op.isLt, by rw [BitVec.ofNat_toNat, BitVec.setWidth_eq]⟩

set_option maxRecDepth 2000 in
/-- The rows of the class jam are those of the mnemonic JAM (R70, R197). -/
theorem cls_eq_jam_iff (op : Byte) : (lookup op).cls = .jam ↔ (lookup op).mnemonic = .JAM := by
  have hrows : ∀ d ∈ allRows, d.cls = .jam ↔ d.mnemonic = .JAM := by decide
  exact hrows _ (lookup_mem_allRows op)

/-- An opcode that is neither a JAM nor unimplemented completes, with a cycle count from 2 to 8 and the core running. -/
theorem successfulStep_of_cls {s : State} (hrun : s.halted = false) (hj : (lookup (s.mem.read s.PC)).cls ≠ .jam)
    (hu : (lookup (s.mem.read s.PC)).cls ≠ .unimplemented) :
    ∃ n t, SuccessfulStep s n t ∧ t.halted = false ∧ 2 ≤ n.toNat ∧ n.toNat ≤ 8 := by
  have hmnemonic : (instrAt s).mnemonic ≠ .JAM := by
    rwa [Ne, cls_eq_jam_iff, ← instrAt_opcode s, lookup_mnemonic] at hj
  obtain ⟨t, ht⟩ := onlyUnstableOpcodesDoNotComplete (instrAt s) s.fetched (by rwa [instrAt_descriptor])
  obtain ⟨n, hn, -, hlow, hhigh⟩ := cyclesAreBasePlusPenalty _ _ _ ht hmnemonic
  have hhalted : t.halted = false := by rw [(Frame.exec ht).halted hmnemonic, State.On.fetched_eq, hrun]
  exact ⟨n, t, successfulStep_iff.mpr ⟨(step_running hrun).trans ht, hn⟩, hhalted, hlow, hhigh⟩

theorem stepOutcome_of_jam {s : State} (hrun : s.halted = false) (hj : (lookup (s.mem.read s.PC)).cls = .jam) :
    stepOutcome s =
      (.illegalOpcodeHalt,
        { s with PC := s.PC + 1, halted := true, cycles := none, bus := [.read s.PC (s.mem.read s.PC)] }) := by
  rw [stepOutcome, step_of_jam hrun ((cls_eq_jam_iff _).mp hj)]
  rfl

/-- The host adds the length of the row of the opcode at `PC` (R212). -/
theorem State.On.skipOpcode_eq (s : State) :
    s.skipOpcode = { s with PC := s.PC + BitVec.ofNat 16 (lookup (s.mem.read s.PC)).length } := by
  rw [State.On.skipOpcode, Instr.length, instrAt_descriptor]
  rfl

/-- Settles O8: the three outcomes of a running step; the state after a JAM is halted, and the state after a refusal is
refused again since its opcode and `PC` are the same. -/
theorem stepOutcomeFollowsTheClass : Obligations.StepOutcomeFollowsTheClass := by
  intro s hrun op
  refine ⟨fun hcls => ?_, fun hj => ?_, fun hu => ?_⟩
  · refine successfulStep_of_cls hrun ?_ ?_ <;> rcases hcls with h | h <;> simp [op, h]
  · exact ⟨_, stepOutcome_of_jam hrun hj, rfl, by rw [stepOutcome_of_halted rfl]⟩
  · refine ⟨_, stepOutcome_of_unimplemented (step_of_unimplemented hrun hu), rfl, ?_, State.On.skipOpcode_eq _⟩
    exact stepOutcome_of_unimplemented (step_of_unimplemented (s := { s with cycles := none, bus := _ }) hrun hu)

end Sys2Proof.Machine

/-! Proofs about reset (spec/70_reset_and_hazards.md) and the state it leaves (spec/10_state.md, section 5). -/

namespace Sys2Proof.Machine

open Sys2Proof Sys2Proof.Claims

/-- Settles O11: the setters of the reset procedure, and the two reads of the vector on FlatRam. -/
theorem resetAssignsEveryRegister : Obligations.ResetAssignsEveryRegister := by
  intro c s
  rw [State.On.resetWith, State.On.read16]
  rfl

/-- Reset leaves a running core on a canonical memory, so the invariant holds. -/
theorem State.On.resetWith_inv (c : Config) {s : State} (h : s.mem.wf) : (s.resetWith c).Inv := by
  rw [resetAssignsEveryRegister c s]
  exact ⟨h, fun hhalted => nomatch hhalted⟩

theorem State.On.resetFrom_of_mem_nil {s : State} (h : s.mem = []) : s.resetFrom = State.reset := by
  rw [State.On.resetFrom, resetAssignsEveryRegister, h]
  rfl

/-- Settles O10: the empty memory is canonical and the reset state runs; the procedure keeps memory and clears `halted`. -/
theorem resetEstablishesTheInvariant : Obligations.ResetEstablishesTheInvariant :=
  ⟨⟨Memory.wf_nil, fun hhalted => nomatch hhalted⟩, fun c _ => State.On.resetWith_inv c⟩

/-- Settles O12: the reset procedure where both vector bytes read 0x00, and the defaults of the configuration, evaluated. -/
theorem resetStateHasTheDefaultValues : Obligations.ResetStateHasTheDefaultValues :=
  ⟨fun _ => State.On.resetFrom_of_mem_nil, rfl, rfl, rfl, rfl, by decide, rfl, rfl, rfl⟩

end Sys2Proof.Machine

/-! Proof that the return from the trap undoes the trap (spec/60_exceptions.md R217). -/

namespace Sys2Proof.Machine

open Sys2Proof Sys2Proof.Claims

/-- The pushed status byte is that of the flags with Break at 1 (R157). -/
theorem Status.pack_or_break (p : Status) : p.pack ||| 0x10 = ({ p with B := true } : Status).pack := by
  obtain ⟨C, Z, I, D, B, V, N⟩ := p
  revert C Z I D B V N
  decide

/-- The three bytes the trap leaves on the stack: the status byte is at another address than the two of the return address. -/
theorem read_takeTrap (ret : Addr) (s : State) :
    (s.takeTrap ret).mem.read (stackAddr s.S) = hi ret ∧ (s.takeTrap ret).mem.read (stackAddr (s.S - 1)) = lo ret ∧
      (s.takeTrap ret).mem.read (stackAddr (s.S - 1 - 1)) = s.P.pack ||| 0x10 := by
  obtain ⟨hhi, hlo⟩ := read_push16 ret s
  have hne : s.S ≠ s.S - 1 - 1 ∧ s.S - 1 ≠ s.S - 1 - 1 := by constructor <;> bv_omega
  rw [State.On.push16_eq] at hhi hlo
  rw [State.On.takeTrap_eq]
  refine ⟨?_, ?_, Memory.read_write_same _ _ _⟩
  · exact (Memory.read_write_other _ _ (mt (stackAddr_inj _ _).mp hne.1)).trans hhi
  · exact (Memory.read_write_other _ _ (mt (stackAddr_inj _ _).mp hne.2)).trans hlo

/-- A return from a state with the stack a trap left pulls the pushed status byte and the pushed address. -/
theorem returnFromTrap_of_takeTrap {s t : State} {ret : Addr} (hS : t.S = (s.takeTrap ret).S)
    (hmem : t.mem = (s.takeTrap ret).mem) :
    t.returnFromTrap.PC = ret ∧ t.returnFromTrap.S = s.S ∧ t.returnFromTrap.P = { s.P with B := true } := by
  obtain ⟨hhi, hlo, hstatus⟩ := read_takeTrap ret s
  have hS1 : t.S + 1 = s.S - 1 - 1 := by rw [hS, State.On.takeTrap_eq, BitVec.sub_add_cancel]
  rw [State.On.returnFromTrap_eq, hS1, BitVec.sub_add_cancel, BitVec.sub_add_cancel, hmem, hhi, hlo, hstatus,
    Status.pack_or_break]
  exact ⟨word16_hi_lo ret, rfl, Status.unpack_pack _⟩

/-- Settles O45: BRK and RTI leave what the trap and the return leave, and the return looks at neither `PC` nor the cycle
count. -/
theorem rtiResumesTwoPastTheBrk : Obligations.RtiResumesTwoPastTheBrk := by
  intro s pc
  refine ⟨_, _, exec_eq_of_implied breakTrap rfl, exec_eq_of_implied State.On.returnFromTrap rfl, ?_⟩
  -- the registers as the effects leave them, without the cycle counts set on top
  dsimp only
  apply returnFromTrap_of_takeTrap
  · rw [State.On.setPC_S, breakTrap_eq]
  · rw [State.On.setPC_mem, breakTrap_eq]

end Sys2Proof.Machine
